-- ==== Sys2Proof/Word.lean ====
section
/-! DEFINITION. Word: the number types of the LC-310 and the two fixed-size tables its blocks use.

The part counts in whole units (00_scope.md, Amounts), so quantities are `Nat`; a bit vector stands
only where the spec itself speaks of bits: payload bytes, level codes, the cells of the cartridge. -/

namespace Sys2Proof

/-- One byte: a payload byte, a level code, a byte of the cartridge. -/
abbrev Byte := BitVec 8

/-- The sixteen bytes of one journal slot or page header, byte 0 most significant (R114, R196). -/
abbrev SlotBits := BitVec 128

/-- A station number as the frame's four bits carry it: lanes 0 to 7, consoles 8 to 14, 15 for every
station (00_scope.md, Station numbers). -/
abbrev Station := Fin 16

/-- A lane number, 0 to 7. -/
abbrev LaneNo := Fin 8

/-- An operation's tag, 0 to 255. -/
abbrev Tag := Fin 256

/-- A cassette position, 0 to 3. -/
abbrev Position := Fin 4

/-- A loop input, 0 to 7. -/
abbrev LoopNo := Fin 8

/-- An index of the denomination list, 0 to 7. -/
abbrev ListIndex := Fin 8

/-- A table of four like things, one for each cassette position. -/
structure Four (α : Type) where
  p0 : α
  p1 : α
  p2 : α
  p3 : α
deriving DecidableEq, Repr

/-- A table of eight like things: one for each lane, loop, driver or list index. -/
structure Eight (α : Type) where
  e0 : α
  e1 : α
  e2 : α
  e3 : α
  e4 : α
  e5 : α
  e6 : α
  e7 : α
deriving DecidableEq, Repr

/-- Four equal things. -/
def Four.replicate {α : Type} (x : α) : Four α := ⟨x, x, x, x⟩

/-- Eight equal things. -/
def Eight.replicate {α : Type} (x : α) : Eight α := ⟨x, x, x, x, x, x, x, x⟩

end Sys2Proof
end

