-- ==== Sys2Proof/Syntax.lean ====
section
/-! DEFINITION. Syntax: the commands of the LC-310, one constructor per row of opcode_table.json, and
the operand types they carry. A request row carries the sender and tag of its frame; a mechanism or
timer row carries what its sensor reports. -/

namespace Sys2Proof

/-- The source and tag of a request frame (R175). -/
structure Sender where
  source : Station
  tag : Tag
deriving DecidableEq, Repr

/-- What a reset reads: the strap pins (R188) and the results of self-test steps 1, 2 and 4 (R189). -/
structure ResetInputs where
  /-- The LANE strap pins. -/
  lane : LaneNo
  /-- The lane count strap pins, 1 to 8. -/
  laneCount : Nat
  /-- Self-test step 1, internal memory, passes. -/
  memoryOk : Bool
  /-- Self-test step 2, bus transceiver loopback, passes. -/
  loopbackOk : Bool
  /-- Self-test step 4: the level code of the converter's internal reference (R146). -/
  converter : Byte
deriving DecidableEq, Repr

/-- The action of a LANE request (R194). -/
inductive LaneAction | noAction | openLane | closeLane
deriving DecidableEq, Repr

/-- The kind of a CLAIM or RELEASE (R166). -/
inductive Quantity | cash | place
deriving DecidableEq, Repr

/-- The lane's service state (R188). -/
inductive Service | starting | setup | closed | opened | failed
deriving DecidableEq, Repr

/-- The lockdown state (R149). -/
inductive LockState | clear | locked | releasable
deriving DecidableEq, Repr

/-- The fields of a peer's STATUS that the wall ledgers keep (R167). A service or lockdown code that
names no state is none; a service of STARTING or FAILED is then heard as none (DESIGN CHOICE, log entry 3). -/
structure StatusHeard where
  service : Option Service
  lock : Option LockState
  cash : Nat
  places : Nat
  wall : Nat
  safe : Nat
deriving DecidableEq, Repr

/-- The origin of a hold-up: a lane and one of its loops (R150). -/
structure LoopOrigin where
  lane : LaneNo
  loop : LoopNo
deriving DecidableEq, Repr

/-- A frame as it crosses the line, in the fields of R175; a payload shorter or longer than the length
field is a frame cut short. -/
structure WireFrame where
  cls : Fin 4
  source : Station
  kind : Fin 32
  dest : Station
  tag : Tag
  length : Fin 32
  payload : List Byte
  check : BitVec 16
deriving DecidableEq, Repr

/-- The eight drivers by their fixed roles, in the order of R141. -/
inductive Driver | drawerOut | drawerIn | shutter | envGate | imprint | silentRelay | strobe | laneLamp
deriving DecidableEq, Repr

/-- The conditions the driver stage reports (R142). -/
inductive Condition | openOff | openOn | overload | shortSupply
deriving DecidableEq, Repr

/-- A check result that brings a note; MISS is a command of its own (R41). -/
inductive CheckOutcome | good | reject | double
deriving DecidableEq, Repr

/-- What the note head reports of a fed note (R79). -/
inductive HeadReport
  | note (index : ListIndex) (fit : Bool)
  | unknown
  | suspect
deriving DecidableEq, Repr

/-- Where the note offered to the purge bin comes from (R8). -/
inductive NoteSource | notePath | stacker | tray | escrow
deriving DecidableEq, Repr

/-- The two ends of the drawer's run (R59). -/
inductive DrawerEnd | home | out
deriving DecidableEq, Repr

/-- The commands of the block, one constructor per row of the table of operations and events
(opcode_table.json), in its order. -/
inductive Instr where
  /-- POWER_RESET (R188: supply returns). -/
  | powerReset (inp : ResetInputs)
  /-- LINE_RESET (R188: the reset pin). -/
  | lineReset (inp : ResetInputs)
  /-- JOURNAL_SCAN_COMPLETE (R127: the start-up scan of the cartridge ends). -/
  | journalScanComplete
  /-- HOMING_COMPLETE (R190: homing ends). -/
  | homingComplete
  /-- SETUP (R192: one setting item, by its code of R196). -/
  | setup (h : Sender) (item : Byte) (selector : Byte) (value : BitVec 32)
  /-- SETUP_DONE (R193). -/
  | setupDone (h : Sender)
  /-- LANE_OPEN (R194: LANE, action OPEN). -/
  | laneOpen (h : Sender)
  /-- LANE_CLOSE (R194: LANE, action CLOSE). -/
  | laneClose (h : Sender)
  /-- LANE_NONE (R194: LANE, action NONE, no flag). -/
  | laneNone (h : Sender)
  /-- LANE_CLEAR_DRAWER (R71, R194: LANE with the clear-drawer flag and its action). -/
  | laneClearDrawer (h : Sender) (action : LaneAction)
  /-- TEST (R194). -/
  | test (h : Sender)
  /-- TEST_COMPLETE (R194, R146: the TEST run ends; the reference level code step 4 measures). -/
  | testComplete (converter : Byte)
  /-- RESTART (R195: the request, and what the reset it takes reads). -/
  | restart (h : Sender) (inp : ResetInputs)
  /-- PAYOUT (R33). -/
  | payout (h : Sender) (amount : Nat) (mixMode : Byte)
  /-- RECALL (R53). -/
  | recall (h : Sender)
  /-- INTAKE (R76). -/
  | intake (h : Sender) (maximum : Byte)
  /-- KEEP (R85). -/
  | keep (h : Sender)
  /-- GIVEBACK (R88). -/
  | giveback (h : Sender)
  /-- ESCROW_TIMER_EXPIRY (R88). -/
  | escrowTimerExpiry
  /-- SLOT (R99). -/
  | slot (h : Sender)
  /-- INVENTORY (R15: position 0 to 3, bin 4, list 5). -/
  | inventory (h : Sender) (selector : Byte)
  /-- RESTOCK (R13: position 0 to 3 or bin 4; denomination 0 for none (R196)). -/
  | restock (h : Sender) (target : Byte) (count : Nat) (denomination : Nat)
  /-- JOURNAL (R126: a logical index). -/
  | journal (h : Sender) (index : Nat)
  /-- LOOPS (R140, without the clear flag). -/
  | loops (h : Sender)
  /-- LOOPS_CLEAR (R140, with the clear flag). -/
  | loopsClear (h : Sender)
  /-- DRIVERS (R144, without the clear flag). -/
  | drivers (h : Sender)
  /-- DRIVERS_CLEAR (R144, with the clear flag). -/
  | driversClear (h : Sender)
  /-- SAFE_OPEN (R107). -/
  | safeOpen (h : Sender)
  /-- SAFE_CLOSE (R109). -/
  | safeClose (h : Sender)
  /-- RESUME (R157). -/
  | resume (h : Sender)
  /-- ROLLCALL (R187: a condition set, bit n the condition of R196's place n). -/
  | rollcall (h : Sender) (conditions : BitVec 16)
  /-- FRAME_RECEIVED (R181: a frame of another sender crosses the line). -/
  | frameReceived (f : WireFrame)
  /-- PEER_CLAIM_HEARD (R166). -/
  | peerClaimHeard (source : Station) (quantity : Quantity) (amount : Nat)
  /-- PEER_RELEASE_HEARD (R166). -/
  | peerReleaseHeard (source : Station) (quantity : Quantity) (amount : Nat)
  /-- PEER_STATUS_HEARD (R167). -/
  | peerStatusHeard (source : Station) (status : StatusHeard)
  /-- LOCKDOWN_FRAME_HEARD (R151: from another lane, or the own readback). -/
  | lockdownFrameHeard (source : Station) (origin : Option LoopOrigin)
  /-- SAFE_SERVICE_BEGIN_HEARD (R106). -/
  | safeServiceBeginHeard (source : Station)
  /-- SAFE_SERVICE_END_HEARD (R110). -/
  | safeServiceEndHeard (source : Station)
  /-- EMPTIED_HEARD (R110). -/
  | emptiedHeard (source : Station) (epoch : Nat)
  /-- ATTEMPT_START (R177: the head of the transmit queue contends). -/
  | attemptStart
  /-- ARBITRATION_LOST (R177). -/
  | arbitrationLost
  /-- ATTEMPT_FAILED (R178: a readback bit error). -/
  | attemptFailed
  /-- MUTE_DROPS_END (R179). -/
  | muteDropsEnd
  /-- FRAME_READBACK (R178: an own RELEASE, STATUS, REPLY or NOTICE is read back). -/
  | frameReadback
  /-- CASH_CLAIM_READBACK (R37). -/
  | cashClaimReadback
  /-- PLACE_CLAIM_READBACK (R101). -/
  | placeClaimReadback
  /-- SAFE_BEGIN_READBACK (R107). -/
  | safeBeginReadback
  /-- SERVICE_END_READBACK (R109). -/
  | serviceEndReadback
  /-- BREAK_HEARD (R151: the line has been dominant for 2 ms). -/
  | breakHeard
  /-- BREAK_END (R180: the driven break ends). -/
  | breakEnd
  /-- ANNOUNCE_TIMER_EXPIRY (R172). -/
  | announceTimerExpiry
  /-- STALE_TIMEOUT (R164). -/
  | staleTimeout (peer : LaneNo)
  /-- LISTEN_DEADLINE (R165). -/
  | listenDeadline (peer : LaneNo)
  /-- SILENCE_TIMER_EXPIRY (R174). -/
  | silenceTimerExpiry
  /-- LOOP_MEASUREMENT (R132). -/
  | loopMeasurement (loop : LoopNo) (code : Byte)
  /-- LOOP_FILTER_EXPIRY (R133). -/
  | loopFilterExpiry (loop : LoopNo)
  /-- HIT_AGEING (R138: the oldest hit reaches 60 s). -/
  | hitAgeing
  /-- HOLD_TIMER_EXPIRY (R153). -/
  | holdTimerExpiry
  /-- DRIVER_CONDITION_CHANGE (R142). -/
  | driverConditionChange (driver : Driver) (condition : Condition) (appears : Bool)
  /-- BLANKING_EXPIRY (R142). -/
  | blankingExpiry (driver : Driver)
  /-- TEMP_HOT (R145). -/
  | tempHot
  /-- TEMP_NORMAL (R145). -/
  | tempNormal
  /-- STROBE_MIN_ON_EXPIRY (R147). -/
  | strobeMinOnExpiry
  /-- LAMP_HOLD_EXPIRY (R148). -/
  | lampHoldExpiry
  /-- PICK (R40: the transport makes the pick its list calls for). -/
  | pick
  /-- CHECK_RESULT (R41: the oldest note's result). -/
  | checkResult (result : CheckOutcome)
  /-- CHECK_MISS (R3, R41: no note reached the check station). -/
  | checkMiss
  /-- REMIX_ANSWER (R44). -/
  | remixAnswer
  /-- TRANSPORT_JAM (R45, R5: at a position's pick point, or elsewhere). -/
  | transportJam (pickPoint : Option Position)
  /-- BIN_NOTE_DELIVERY (R8: the transport offers a note from there to the purge bin). -/
  | binNoteDelivery (source : NoteSource)
  /-- CASSETTE_REMOVAL (R10). -/
  | cassetteRemoval (position : Position)
  /-- CASSETTE_INSERTION (R10). -/
  | cassetteInsertion (position : Position)
  /-- END_SENSOR_ARRIVAL (R59). -/
  | endSensorArrival (drawerEnd : DrawerEnd)
  /-- TRAVEL_TIMER_EXPIRY (R60). -/
  | travelTimerExpiry
  /-- DRAWER_SENSOR_LOST (R67). -/
  | drawerSensorLost (drawerEnd : DrawerEnd)
  /-- TRAY_SENSOR_CHANGE (R63). -/
  | traySensorChange (occupied : Bool)
  /-- TAKE_FILTER_EXPIRY (R65). -/
  | takeFilterExpiry
  /-- TAKE_TIMER_EXPIRY (R65). -/
  | takeTimerExpiry
  /-- PLACEMENT_FILTER_EXPIRY (R68). -/
  | placementFilterExpiry
  /-- WAIT_TIMER_EXPIRY (R68). -/
  | waitTimerExpiry
  /-- RETRACT_TRAY_EXHAUSTED (R69). -/
  | retractTrayExhausted
  /-- NOTE_FED (R79: the note head's report of the note fed). -/
  | noteFed (report : HeadReport)
  /-- FEEDER_TRAY_EXHAUSTED (R79). -/
  | feederTrayExhausted
  /-- ESCROW_NOTE_STACKED (R87). -/
  | escrowNoteStacked
  /-- GIVEBACK_NOTE_MOVED (R89). -/
  | givebackNoteMoved
  /-- ENTRY_SENSOR_CHANGE (R102). -/
  | entrySensorChange (reports : Bool)
  /-- ENTRY_FILTER_EXPIRY (R103). -/
  | entryFilterExpiry
  /-- SLOT_TIMER_EXPIRY (R102). -/
  | slotTimerExpiry
  /-- DROP_SENSOR_REPORT (R103). -/
  | dropSensorReport
  /-- DROP_TIMER_EXPIRY (R103). -/
  | dropTimerExpiry
  /-- JOURNAL_WRITE_START (R118). -/
  | journalWriteStart
  /-- JOURNAL_LINE_ANSWER (R118: a read or programming is answered; what the cells then show, or none where they show what they ideally hold). -/
  | journalLineAnswer (seen : Option SlotBits)
  /-- JOURNAL_LINE_TIMEOUT (R124). -/
  | journalLineTimeout
  /-- CARTRIDGE_REMOVAL (R124). -/
  | cartridgeRemoval
  /-- CARTRIDGE_INSERTION (R124: another cartridge with these cells, or none for the one removed). -/
  | cartridgeInsertion (cells : Option (List Host.Cell))
deriving DecidableEq, Repr

end Sys2Proof
end

