-- ==== Sys2Proof/Decode.lean ====
section
/-! DEFINITION. Decode: the command a word of the table spells. No row of opcode_table.json gives bits
(the reader's counts: rows with fixed bits 0, rows with fields 0), so no word spells a command. The
layouts of chapter 13, which are of frames and records and not of the table's rows, stand in
Machine/Layout.lean, and Machine/Operands.lean reads a request frame's payload by them. -/

namespace Sys2Proof

/-- The command that the table's bits give a word: none, since the table gives no row any bits. -/
def decodeTableWord (_nbits _w : Nat) : Option Instr := none

end Sys2Proof
end

