-- ==== Sys2Proof/Config.lean ====
section
/-! DEFINITION. Config: what the manual fixes for every LC-310, and the free values, which it leaves
open. A free value has no body, so nothing can be proved of it; the log entry named at each says what
the manual does not state. -/

namespace Sys2Proof.Config

/-- The bundle limit of a first mix, and the most notes the stacker or the escrow holds (R20, R75). -/
def bundleLimit : Nat := 40
/-- The most notes the tray holds (R58). -/
def trayLimit : Nat := 100
/-- The room homing may use in the purge bin, the largest capacity a bin can be set to (R18). -/
def homingBinRoom : Nat := 400
/-- The diverted count a payout may reach without failing (R42). -/
def divertLimit : Nat := 8
/-- The notes the note path holds (R40). -/
def pathLimit : Nat := 4

/-- The records the journal write queue holds (R116). -/
def writeQueueLimit : Nat := 16
/-- The margin a reservation leaves free, the standing reserve (R122). -/
def standingReserve : Nat := 6
/-- The free slots at or below which the journal is LOW (R123). -/
def journalLowMark : Nat := 1024
/-- The primary pages of the cartridge; the spares follow them (R114). -/
def primaryPages : Nat := 3968
/-- Every page of the cartridge (R114). -/
def allPages : Nat := 4096
/-- The spare pages of the cartridge (R114). -/
def sparePages : Nat := 128
/-- The attempts of one verified programming (R118). -/
def programAttempts : Nat := 4

/-- The frames the transmit queue holds (R183). -/
def txLimit : Nat := 16
/-- The frames of classes 2 and 3 the transmit queue holds (R183). -/
def txLowLimit : Nat := 12
/-- The failed attempts that drop a frame (R178). -/
def attemptLimit : Nat := 8
/-- The consecutive drops that mute the station (R178). -/
def dropLimit : Nat := 4
/-- The good frames that end MUTE with cause DROPS (R179). -/
def muteGoodFrames : Nat := 32

/-- The highest cash a peer entry is held at (R163). -/
def peerCashLimit : Nat := 500000
/-- The highest places a peer entry is held at, and own places held without a journal (R163, R98). -/
def peerPlacesLimit : Nat := 5000

/-- The travel timer of a drawer run, in milliseconds (R59). -/
def travelTime : Nat := 4000
/-- The take filter (R63). -/
def takeFilterTime : Nat := 1000
/-- The placement filter (R63). -/
def placementFilterTime : Nat := 2000
/-- The entry filter of the envelope path (R96). -/
def entryFilterTime : Nat := 300
/-- The drop timer of the envelope path (R96). -/
def dropTime : Nat := 5000
/-- The blanking of a driver (R141). -/
def blankingTime : Nat := 10
/-- The break the station drives (R180). -/
def breakTime : Nat := 5
/-- The hold of the lane lamp (R148). -/
def lampHoldTime : Nat := 1000
/-- The age at which a vibration hit leaves the list (R138). -/
def hitAge : Nat := 60000
/-- The hits the vibration hit list holds (R138). -/
def hitLimit : Nat := 8

/-- FREE VALUE (log entry 7). The note count of the stacker bundle a stopped homing leaves: R191 says it
is not known. Applied to the model's counter of free values. -/
opaque strandedNotes : Nat → Nat
/-- FREE VALUE (log entry 7). The value of that bundle (R191: not known). -/
opaque strandedValue : Nat → Nat
/-- FREE VALUE (log entry 7). Whether notes lie in the stacker when a jam, or a refusal of a note of the note
path, stops homing's step 1: no record tells (R191). Applied as the two above. -/
opaque stackerHolds : Nat → Bool
/-- FREE VALUE (log entry 8). The wall seconds stamped where base plus elapsed seconds passes the 32 bits
of the record's field: R192 and R196 state no result there. Applied to the exact sum. -/
opaque wallSecondsPastRange : Nat → BitVec 32
/-- FREE VALUE (log entry 9). Which of the bits a programming was to clear are left at 1 when the write
stops before the cartridge answers (R114 calls the slot damaged, and no rule gives its content). Applied
to the model's counter of free values. -/
opaque interruptedBits : Nat → BitVec 128
/-- FREE VALUE (log entry 20). The lane number the strap pins give at a RESTART that comes as a whole frame:
the frame carries none (R188, R195). Applied, as the next four, to the model's counter of free values. -/
opaque restartLane : Nat → LaneNo
/-- FREE VALUE (log entry 20). The lane count the strap pins then give, less 1 (R188: 1 to 8). -/
opaque restartCount : Nat → Fin 8
/-- FREE VALUE (log entry 20). Whether self-test step 1 then passes (R189). -/
opaque restartMemory : Nat → Bool
/-- FREE VALUE (log entry 20). Whether self-test step 2 then passes (R189). -/
opaque restartLoopback : Nat → Bool
/-- FREE VALUE (log entry 20). The level code of the converter's reference then (R146). -/
opaque restartConverter : Nat → Byte

end Sys2Proof.Config
end

