-- ==== Sys2Proof/Machine/State.lean ====
section
/-! DEFINITION. State: everything the manual gives the LC-310, block by block (00_scope.md, Block
diagram), as plain data, with the values a reset leaves.

A timer is the lane's clock time, in milliseconds, at which it runs out, or none while it is stopped; a
time since an event is kept as the clock time of the event (log entry 1). -/

namespace Sys2Proof.Machine

/-- A timer: stopped, or the clock time at which it expires. -/
abbrev Timer := Option Nat

/-! ### Cassettes, purge bin, denominations (chapter 1) -/

/-- The mode of a cassette position (R1). -/
inductive CassMode | dispense | recycle | deposit | unused
deriving DecidableEq, Repr

/-- A cassette's state: the first four are derived from the count, the others held (R2). -/
inductive CassState | ok | low | empty | full | fault | suspect | out | unused
deriving DecidableEq, Repr

/-- Why a cassette is, or last became, unusable (R1). -/
inductive FaultCause | miss | rejects | jam | removed
deriving DecidableEq, Repr

/-- One entry of the cassette table (R1). -/
structure Cassette where
  mode : CassMode
  denomination : Option Nat
  count : Nat
  /-- Present for DEPOSIT only. -/
  value : Option Nat
  capacity : Nat
  lowMark : Nat
  state : CassState
  badRun : Nat
  cause : Option FaultCause
  lastRestock : Option Nat
deriving DecidableEq, Repr

/-- The state of the purge bin (R7). -/
inductive BinState | ok | nearFull | full
deriving DecidableEq, Repr

/-- The purge bin's count and capacity; its state is derived from them (R7). -/
structure Bin where
  count : Nat
  capacity : Nat
deriving DecidableEq, Repr

/-- What a KEPT record adds, kept for the replay until the modes are known (R16, R197). -/
structure KeptItem where
  added : Four Nat
  value1 : Nat
  value2 : Nat
deriving DecidableEq, Repr

/-- A replayed entry, held until SETUP_DONE (R16, R17). The notes of `kept` are already in `count`; the
values wait for the modes. -/
structure ReplayEntry where
  anchored : Bool
  count : Nat
  denomination : Option Nat
  lastRestock : Option Nat
  kept : List KeptItem
  suspect : Bool
deriving DecidableEq, Repr

/-- The cassette table: four entries, the bin, the denomination list, the presence sensors and the held
replay (R1, R7, R9, R10, R18). -/
structure Cassettes where
  entry : Four Cassette
  bin : Bin
  denominations : Eight (Option Nat)
  /-- The presence sensors' readings. -/
  present : Four Bool
  /-- The held results of the replay (R16 to R18). -/
  replay : Four ReplayEntry
deriving DecidableEq, Repr

/-! ### The mix and the note transport (chapters 2 and 3) -/

/-- A mix (R28): positions in pick-list order with the notes of each, and the BELOW_MARK flag. -/
structure Mix where
  picks : List (Position × Nat)
  belowMark : Bool
deriving DecidableEq, Repr

/-- The mix unit's answer (R19). -/
inductive MixAnswer | mix (m : Mix) | range | noMix
deriving DecidableEq, Repr

/-- An entry of the pick list: a position and its quota (R39). -/
structure PickEntry where
  position : Position
  quota : Nat
deriving DecidableEq, Repr

/-- A note record of the note path (R40). -/
structure PathNote where
  position : Position
  pickNumber : Nat
deriving DecidableEq, Repr

/-- The kind of the stacker bundle. -/
inductive BundleKind | empty | cash | returned
deriving DecidableEq, Repr

/-- The stacker bundle (R191, R79). -/
structure Bundle where
  kind : BundleKind
  notes : Nat
  value : Nat
deriving DecidableEq, Repr

/-- The transport controller: pick list, note path oldest first, stacker bundle (R39 to R43, R191). -/
structure Transport where
  pickList : List PickEntry
  path : List PathNote
  /-- The pick number of the last pick of the payout (R40). -/
  pickNumber : Nat
  /-- Picks are halted (R40, R43). -/
  halted : Bool
  /-- The position whose loss halted the picks (R43). -/
  lost : Option Position
  /-- The answer to a remix asked and not yet taken, worked out from the table at the asking (R19). -/
  remix : Option MixAnswer
  stacker : Bundle
deriving DecidableEq, Repr

/-! ### Payout (chapter 3) -/

/-- PAYOUT's mix mode (R31). -/
inductive MixMode | fewest | spread
deriving DecidableEq, Repr

/-- The states of a payout (R31). -/
inductive PayoutState
  | staged | claiming | picking | bundled | presenting | presented | retracting | purging | jammed
deriving DecidableEq, Repr

/-- The outcomes of a payout (R31). -/
inductive PayoutOutcome
  | paid | retracted | failedShort | failedRejects | failedJam | recalled | locked | superseded
  | exposure | line
deriving DecidableEq, Repr

/-- The payout record (R31) and the slots of its reservation not yet used (R56). The value and notes
stacked are the stacker's, or the drawer's once presented. -/
structure Payout where
  tag : Tag
  console : Station
  amount : Nat
  mode : MixMode
  mix : Mix
  drawn : Four Nat
  stackedNotes : Nat
  stackedValue : Nat
  diverted : Nat
  binned : Nat
  recallPending : Bool
  state : PayoutState
  outcome : Option PayoutOutcome
  slots : Nat
deriving DecidableEq, Repr

/-! ### Deal drawer (chapter 4) -/

/-- The drawer's position (R58). -/
inductive DrawerPosition | home | extending | out | retracting | jammed
deriving DecidableEq, Repr

/-- The run in progress (R59). -/
inductive Movement | extend | retract | close | homing | clear
deriving DecidableEq, Repr

/-- The drawer's contents (R58). -/
inductive Contents | empty | cash | returned | customer | retained
deriving DecidableEq, Repr

/-- The kinds of transaction the drawer is lent to (R58). -/
inductive OwnerKind | payout | intake | giveback
deriving DecidableEq, Repr

/-- The owning transaction and its tag (R58). -/
structure Owner where
  kind : OwnerKind
  tag : Tag
deriving DecidableEq, Repr

/-- The drawer record (R58). -/
structure Drawer where
  position : DrawerPosition
  movement : Option Movement
  contents : Contents
  owner : Option Owner
  lastOwnerTag : Option Tag
  presented : Nat
  counted : Nat
  /-- The payout's request waits for the CLOSE run to end (R61). -/
  waiting : Bool
  /-- The transport is counting the tray into the bin (R69, R73). -/
  counting : Bool
  /-- The run or wait in progress is a receive (R68). -/
  receiving : Bool
  travel : Timer
  take : Timer
  wait : Timer
  takeFilter : Timer
  placementFilter : Timer
  /-- The tray sensor's raw reading: occupied. -/
  tray : Bool
  /-- The clock time since which the tray reading has held (R58). -/
  traySince : Nat
  /-- The end sensor that reports arrival, if one does (R59). -/
  atEnd : Option DrawerEnd
deriving DecidableEq, Repr

/-! ### Intake (chapter 5) -/

/-- The states of an intake (R74). -/
inductive IntakeState
  | receiving | feeding | returning | held | keeping | givingBack | jammed | stopped
deriving DecidableEq, Repr

/-- An escrow note (R75). -/
structure EscrowNote where
  index : ListIndex
  fit : Bool
deriving DecidableEq, Repr

/-- The escrow timer (R74): suspended keeps its remaining milliseconds. -/
inductive EscrowTimer
  | stopped
  | running (expires : Nat)
  | suspended (remaining : Nat)
deriving DecidableEq, Repr

/-- The cause of a giveback (R88). -/
inductive GivebackCause | request | timeout
deriving DecidableEq, Repr

/-- The intake record (R74), with what its KEEP or giveback has done so far (R86 to R89) and the slots
of its reservation not yet used (R94). -/
structure Intake where
  tag : Tag
  console : Station
  maximum : Nat
  state : IntakeState
  returned : Nat
  suspect : Nat
  uncollected : Nat
  trayLeft : Bool
  presentDeferred : Bool
  /-- The present of the returns or giveback has been made (R83, R92). -/
  presentMade : Bool
  timer : EscrowTimer
  escrow : List EscrowNote
  /-- The routing plan of the notes still in escrow, oldest first (R86). -/
  plan : List Position
  /-- The notes the KEEP has added to each position (R87). -/
  keptNotes : Four Nat
  /-- The value the KEEP has added to each DEPOSIT position (R87). -/
  keptValue : Four Nat
  /-- The notes and the value the KEEP has stacked (R95). -/
  keptCount : Nat
  keptTotal : Nat
  /-- The giveback's note count and cause (R89). -/
  givebackNotes : Nat
  cause : GivebackCause
  /-- The state the intake left for JAMMED (R90). -/
  jammedFrom : Option IntakeState
  slots : Nat
deriving DecidableEq, Repr

/-! ### Envelopes and the drop safe (chapter 6) -/

/-- The states of the envelope path (R96). -/
inductive PathState | idle | staged | claiming | opened | capturing | fault
deriving DecidableEq, Repr

/-- The envelope record (R96). -/
structure EnvelopeRecord where
  tag : Tag
  console : Station
  abandoned : Bool
  /-- A latched driver fault sends the path to FAULT at the record's end (R100, R104). -/
  faultAtEnd : Bool
  /-- The serial of the capture number, once issued. -/
  serial : Option Nat
deriving DecidableEq, Repr

/-- The safe lane's service phase (R107). -/
inductive ServicePhase | noService | beginning | begun | doorOpen | doorClosed
deriving DecidableEq, Repr

/-- The envelope controller (R96, R97, R106, R107, R110). -/
structure Envelope where
  path : PathState
  record : Option EnvelopeRecord
  slotTimer : Timer
  entryFilter : Timer
  dropTimer : Timer
  /-- The entry sensor's reading. -/
  entry : Bool
  /-- The mechanism holds an envelope between the gate and the drop (R98); a reset leaves it there. -/
  held : Bool
  /-- The serial of the last capture number issued (R97). -/
  serial : Nat
  /-- The service flag: CLEAR, or the number whose BEGIN set it (R106). -/
  service : Option Station
  phase : ServicePhase
  /-- The last emptying epoch (R110). -/
  epoch : Nat
deriving DecidableEq, Repr

/-! ### The custody journal (chapter 7) -/

/-- The causes of a reset (R188). -/
inductive ResetCause | power | line | restart
deriving DecidableEq, Repr

/-- The reasons of a PURGE record (R46, R190). -/
inductive PurgeReason | short | rejects | jam | recalled | locked | start
deriving DecidableEq, Repr

/-- The reasons of a CAPTURE record (R94, R190). -/
inductive CaptureReason | suspect | uncollected | start
deriving DecidableEq, Repr

/-- The journal records and their payloads (R196, R197). A RESTOCK of no position is the bin's. -/
inductive Record
  | start (cause : ResetCause) (queueLoss : Bool)
  | pick (tag : Tag) (amount : Nat) (planned : Four Nat)
  | paid (tag : Tag) (amount : Nat) (drawn : Four Nat) (binned : Nat)
  | retract (tag : Tag) (presented retracted : Nat) (drawn : Four Nat) (binned : Nat)
  | purge (reason : PurgeReason) (drawn : Four Nat) (binned : Nat)
  | kept (added : Four Nat) (value1 value2 : Nat)
  | capture (reason : CaptureReason) (notes : Nat)
  | envelope (serial : Nat) (confirmed : Bool)
  | lockdown (origin : Option LoopOrigin)
  | resume
  | safeEmptied (epoch : Nat)
  | restock (target : Option Position) (denomination : Option Nat) (count : Nat)
  | drawerCleared (tag : Option Tag) (unaccounted : Nat)
deriving DecidableEq, Repr

/-- A record of the write queue: its wall seconds, and whether it joined under a reservation (R116,
R117). -/
structure QueuedRecord where
  record : Record
  seconds : BitVec 32
  reserved : Bool
deriving DecidableEq, Repr

/-- The journal states (R123). -/
inductive JournalState | ready | low | full | fault | absent
deriving DecidableEq, Repr

/-- The operation on the journal line that waits for its answer (R118 to R120). -/
inductive LineOp
  /-- R118 step 1: the read of the slot at the write position. -/
  | readSlot
  /-- R118 step 3: a programming of the record, the attempt counted from 1. -/
  | programSlot (attempt : Nat)
  /-- R118 step 4: its read-back. -/
  | verifySlot (attempt : Nat)
  /-- R118 step 5: the programming of zeros. -/
  | voidSlot
  /-- R115: the programming of a header OPEN; `retiring` while a spare is opened for a retirement. -/
  | programOpen (page : Nat) (retiring : Bool) (attempt : Nat)
  | verifyOpen (page : Nat) (retiring : Bool) (attempt : Nat)
  /-- R115: a header that does not verify is programmed all zeros. -/
  | skipPage (page : Nat) (retiring : Bool)
  /-- R119 step 2: the header RETIRED, with the redirect to the opened spare or none. -/
  | programRetire (spare : Option Nat) (attempt : Nat)
  | verifyRetire (spare : Option Nat) (attempt : Nat)
  /-- R119: a header that does not verify at step 2 is programmed all zeros. -/
  | dropRetired
  /-- R120: the read of a record slot for the seal check. -/
  | sealRead (slot : Nat)
  | programSeal (attempt : Nat)
  | verifySeal (attempt : Nat)
  /-- R120: a seal that does not verify leaves the header RETIRED with redirect none. -/
  | unseal
deriving DecidableEq, Repr

/-- The journal controller: cartridge, write queue, page map (R114, R116, R121). -/
structure Journal where
  /-- The cells of the cartridge that do not read all ones, in the canonical form of `Memory.wf`. -/
  cells : List Host.Cell
  /-- The cartridge presence sensor (R124). -/
  present : Bool
  queue : List QueuedRecord
  /-- The sequence number given to the record at the head (R117). -/
  headSequence : Option Nat
  op : Option LineOp
  /-- The write position (R121): none before the page is opened. -/
  writePage : Option Nat
  nextSlot : Nat
  voids : Nat
  /-- The next primary page of the logical order to be opened (R115). -/
  nextPrimary : Nat
  /-- The page sequence of the last page of the logical order that has one (R115). -/
  lastPageSequence : Nat
  /-- The page sequence of the last page before the write page that has one (R115): what counts as the last
  when the write page is zeroed (R119). -/
  priorPageSequence : Nat
  /-- The spare pages opened or skipped; the page map's spares used is their number (R119, R121). -/
  spares : List Nat
  /-- A spare page the logical order has reached by a redirect and that is not yet opened (R114, R115). -/
  orderSpare : Option Nat
  reserved : Nat
  highest : Nat
  state : JournalState
  lost : Bool
deriving DecidableEq, Repr

/-! ### Alarm loops and output drivers (chapter 8) -/

/-- The roles of a loop (R131). -/
inductive LoopRole | holdup | safeDoor | cassetteDoor | vibration | enclosure | spare
deriving DecidableEq, Repr

/-- The classes of a loop (R131); `cut` is the class the manual calls OPEN. -/
inductive LoopClass | normal | active | short | cut
deriving DecidableEq, Repr

/-- The filter times of a loop: 20, 50, 200 or 500 ms (R131). -/
inductive FilterTime | ms20 | ms50 | ms200 | ms500
deriving DecidableEq, Repr

/-- The settings of a loop (R131). -/
structure LoopSetting where
  role : LoopRole
  supervised : Bool
  filter : FilterTime
deriving DecidableEq, Repr

/-- An entry of the loop table (R131); its settings stand in the settings table, its raw class is the
class of its level code (R132), a filtered class of none is UNFILTERED. -/
structure Loop where
  level : Byte
  filtered : Option LoopClass
  candidate : Timer
  latch : Bool
  /-- The clock time from which the time in present class counts: that of the last change of R134. DESIGN CHOICE, log
  entry 24: before the first such change it is that of the reset, for an UNFILTERED loop and for one whose first
  filtered class is NORMAL. -/
  since : Nat
deriving DecidableEq, Repr

/-- The loop monitor: the loop table and the vibration hit list, oldest first (R131, R138). -/
structure Loops where
  entry : Eight Loop
  hits : List Nat
deriving DecidableEq, Repr

/-- A set of fault kinds (R141). -/
structure FaultSet where
  openOff : Bool
  openOn : Bool
  overload : Bool
  shortSupply : Bool
  hot : Bool
deriving DecidableEq, Repr

/-- An entry of the driver table (R141); the output is derived from it. `stage` holds the conditions the
driver stage reports as present, taken or not (R142). -/
structure DriverEntry where
  commanded : Bool
  diagnostics : Bool
  live : FaultSet
  latched : FaultSet
  blanking : Timer
  stage : FaultSet
deriving DecidableEq, Repr

/-- The driver bank (R141), the temperature sensor (R145), the strobe's minimum on timer (R147) and the
lamp's hold (R148). -/
structure Drivers where
  entry : Eight DriverEntry
  hot : Bool
  strobeMinOn : Timer
  lampHold : Timer
deriving DecidableEq, Repr

/-! ### Lockdown (chapter 9) -/

/-- The drawer policy (R156). -/
inductive DrawerPolicy | retract | leave
deriving DecidableEq, Repr

/-- The lockdown controller (R149) and the LOCKDOWN records it holds during start-up (R152). -/
structure Lockdown where
  state : LockState
  hold : Timer
  heldRecords : List Record
deriving DecidableEq, Repr

/-! ### Wall ledgers (chapter 10) -/

/-- The states of a peer entry (R164), and the mark of the lane's own (R163). -/
inductive PeerState | self | absent | unknown | fresh | stale | silent
deriving DecidableEq, Repr

/-- An entry of the peer table (R163). -/
structure Peer where
  state : PeerState
  cash : Nat
  places : Nat
  wall : Option Nat
  safe : Option Nat
  lock : Option LockState
  service : Option Service
  heard : Bool
  /-- The clock time at which the peer was last heard, or of the reset. -/
  heardAt : Nat
  deadline : Timer
deriving DecidableEq, Repr

/-- The wall ledgers (R162, R163, R172, R174). -/
structure Ledgers where
  cash : Nat
  places : Nat
  peer : Eight Peer
  announce : Timer
  silence : Timer
  isolated : Bool
deriving DecidableEq, Repr

/-! ### The wall bus (chapter 11) -/

/-- The REPLY codes, in the order of R185. -/
inductive ReplyCode
  | accepted | done | busy | state | noMix | exposure | safeFull | unavailable | journal | locked
  | line | range | malformed | notPermitted | superseded
deriving DecidableEq, Repr

/-- The status of a JOURNAL read (R126). -/
inductive ReadStatus | good | checkBad | void | beyondEnd
deriving DecidableEq, Repr

/-- A loop as LOOPS reports it (R140). -/
structure LoopReport where
  role : LoopRole
  supervised : Bool
  filter : FilterTime
  level : Byte
  raw : LoopClass
  filtered : Option LoopClass
  latch : Bool
  seconds : Nat
deriving DecidableEq, Repr

/-- A driver as DRIVERS reports it (R144). -/
structure DriverReport where
  commanded : Bool
  output : Bool
  diagnostics : Bool
  live : FaultSet
  latched : FaultSet
deriving DecidableEq, Repr

/-- The body of a REPLY (R196). -/
inductive ReplyBody
  | empty
  | payoutAccepted (noteTotal : Nat) (belowMark : Bool)
  | lanesLocked (lanes : Eight Bool)
  | remainingHold (seconds : Nat)
  | checkNumber (n : Nat)
  | cassette (c : Cassette)
  | bin (count capacity : Nat) (state : BinState)
  | denominations (d : Eight (Option Nat))
  | journal (status : ReadStatus) (state : JournalState) (free spares highest : Nat) (slot : SlotBits)
  | loops (rows : Eight LoopReport) (hits : Nat) (converterFault powerLost : Bool)
  | drivers (rows : Eight DriverReport) (hot : Bool)
  | conditions (set : BitVec 16)
deriving DecidableEq, Repr

/-- The results of INTAKE_END (R95). -/
inductive IntakeResult | empty | held | noEscrow | jammed
deriving DecidableEq, Repr

/-- The outcomes of ESCROW_END (R95). -/
inductive EscrowOutcome | kept | taken | retracted | cleared | jammed
deriving DecidableEq, Repr

/-- The outcomes of ENVELOPE_END (R113). -/
inductive EnvelopeOutcome | captured | unconfirmed | noEnvelope | cancelled
deriving DecidableEq, Repr

/-- The causes of a cancelled envelope (R113). -/
inductive CancelCause | locked | closed | safeService | fault
deriving DecidableEq, Repr

/-- The causes of ALARM (R134). -/
inductive AlarmCause | door | cassetteDoor | attack | enclosure
deriving DecidableEq, Repr

/-- The events of NOTICE SAFE (R107, R109). -/
inductive SafeEvent | begin | emptied | aborted
deriving DecidableEq, Repr

/-- The events of NOTICE JOURNAL (R123). -/
inductive JournalEvent | low | full | fault
deriving DecidableEq, Repr

/-- The notices, in the order of R186, with the contents their rules give them. -/
inductive Notice
  | presented (notes amount : Nat)
  | paid (amount : Nat)
  | retracted (presented retracted : Nat)
  | payoutFailed (outcome : PayoutOutcome) (binned : Nat)
  | intakeEnd (result : IntakeResult) (counts : Eight Nat) (value returned suspect uncollected : Nat)
      (trayLeft : Bool)
  | escrowEnd (outcome : EscrowOutcome) (cause : Option GivebackCause)
      (notes value counted unaccounted inEscrow : Nat)
  | envelopeEnd (outcome : EnvelopeOutcome) (cause : Option CancelCause)
      (capture : Option (LaneNo × Nat))
  | loopChange (loop : LoopNo) (role : LoopRole) (left entered : LoopClass)
  | loopTrouble (loop : LoopNo) (role : LoopRole) (cls : LoopClass)
  | alarm (loop : LoopNo) (role : LoopRole) (cls : LoopClass) (cause : AlarmCause)
  | driverFault (driver : Driver) (latched live : FaultSet)
  /-- A target of none is the bin. -/
  | cassetteChange (target : Option Position) (state : CassState ⊕ BinState) (cause : Option FaultCause)
      (count : Nat)
  | safe (event : SafeEvent) (epoch : Nat)
  | journal (event : JournalEvent) (free : Nat)
  | mismatch (wall safe wallEff safeEff : Nat) (lanes : Eight Bool)
  | testResult (lastStep : Nat) (pass : Bool)
deriving DecidableEq, Repr

/-- The content of a STATUS, filled in at the start of an attempt (R172). -/
structure StatusContent where
  service : Service
  lock : LockState
  cash : Nat
  places : Nat
  wall : Nat
  safe : Nat
  conditions : BitVec 16
  free : Nat
deriving DecidableEq, Repr

/-- The frames the lane sends (R175, R176). A SAFE_SERVICE or EMPTIED frame carries the mark of the
request that asked for it, which is answered at its end (R106, R107, R109, R111). -/
inductive TxBody
  | lockdown (origin : LoopOrigin)
  | claim (quantity : Quantity) (amount : Nat)
  | release (quantity : Quantity) (amount : Nat)
  | serviceBegin (requested : Bool)
  | serviceEnd (requested : Bool)
  | emptied (epoch : Nat)
  | reply (kind : Fin 32) (code : ReplyCode) (body : ReplyBody)
  | notice (n : Notice)
  | status (content : Option StatusContent)
deriving DecidableEq, Repr

/-- A frame of the transmit queue with its marks (R183). -/
structure TxFrame where
  body : TxBody
  dest : Station
  tag : Tag
  failed : Nat
  /-- An attempt of it has begun. -/
  begun : Bool
  /-- Its attempt is on the line. -/
  onLine : Bool
  /-- A CLAIM its owner has abandoned. -/
  abandoned : Bool
  /-- A STATUS marked to be sent again. -/
  again : Bool
deriving DecidableEq, Repr

/-- MUTE and its cause; cause DROPS counts good frames (R179). -/
inductive Mute
  | no
  | drops (goodFrames : Nat)
  | clash
deriving DecidableEq, Repr

/-- The bus station (R178, R179, R180, R183). -/
structure Bus where
  queue : List TxFrame
  /-- Consecutive dropped frames. -/
  drops : Nat
  mute : Mute
  /-- Runs while the station drives its own break. -/
  breakTimer : Timer
deriving DecidableEq, Repr

/-! ### Lane supervisor and settings (chapter 12) -/

/-- The settings of a position (R192). -/
structure PositionSetting where
  mode : CassMode
  denomination : Option Nat
  capacity : Nat
  lowMark : Nat
deriving DecidableEq, Repr

/-- The settings table (R192). -/
structure Settings where
  wall : Nat
  cap : Nat
  safe : Nat
  announce : Nat
  takeTimeout : Nat
  intakeWait : Nat
  slotTimeout : Nat
  escrowTimeout : Nat
  lockdownHold : Nat
  vibration : Nat
  strobeMinOn : Nat
  binCapacity : Nat
  position : Four PositionSetting
  denominations : Eight (Option Nat)
  loop : Eight LoopSetting
  diagnostics : Eight Bool
  policy : DrawerPolicy
  safeLane : Bool
  attending : Option Station
  supervisor : Option Station
deriving DecidableEq, Repr

/-- The closing causes, TRANSPORT and PURGE held apart by their source (R188). -/
structure Causes where
  driverTest : Bool
  converter : Bool
  journal : Bool
  transportModule : Bool
  transportDrawer : Bool
  purgeModule : Bool
  purgeDrawer : Bool
  drawer : Bool
  driver : Bool
  attack : Bool
  enclosure : Bool
deriving DecidableEq, Repr

/-- The steps of homing that wait on a mechanism, in their order (R190): 1 the note path and the stacker, 2
the drawer and its tray, 3 the escrow pocket, 4 an envelope in the mechanism. -/
inductive HomingStep | module | drawer | escrow | envelope
deriving DecidableEq, Repr

/-- Where homing stands, what it has delivered so far, and the envelope it carried to the drop (R190). -/
structure Homing where
  running : Bool
  step : HomingStep
  moduleNotes : Nat
  trayNotes : Nat
  escrowNotes : Nat
  envelope : Option Nat
deriving DecidableEq, Repr

/-- A clearing of the drawer in progress (R72): its request, and whether it took a new reservation. -/
structure Clearing where
  request : Sender
  newSlot : Bool
deriving DecidableEq, Repr

/-- The lane supervisor (R188 to R194). -/
structure Supervisor where
  service : Service
  lane : LaneNo
  laneCount : Nat
  resetCause : ResetCause
  /-- The queue loss flag of the reset just taken (R128). -/
  queueLoss : Bool
  powerLost : Bool
  causes : Causes
  /-- The drivers the off-state check found failing (R146). -/
  driverTest : Eight Bool
  /-- The converter fault (R146). -/
  converterFault : Bool
  /-- The start-up scan of the cartridge is running (R127). -/
  scanning : Bool
  homing : Homing
  /-- The TEST run in progress, with its tag (R194). -/
  testRun : Option Tag
  /-- A line operation of the TEST's rescan went unanswered (R130). -/
  testFault : Bool
  clearing : Option Clearing
  setupConsole : Option Station
  pending : Settings
  /-- The wall seconds base and the clock time of its SETUP (R192). -/
  wallBase : Option (Nat × Nat)
deriving DecidableEq, Repr

/-! ### The lane and the state -/

/-- Everything the manual gives one LC-310. `free` is the model's own counter of free values. -/
structure Lane where
  clock : Nat
  sup : Supervisor
  settings : Settings
  cass : Cassettes
  transport : Transport
  payout : Option Payout
  drawer : Drawer
  intake : Option Intake
  envelope : Envelope
  journal : Journal
  loops : Loops
  drivers : Drivers
  lockdown : Lockdown
  ledgers : Ledgers
  bus : Bus
  free : Nat
deriving DecidableEq, Repr

/-- The machine: one lane and the commands that wait for it, first in, first out. -/
structure State where
  pending : List Instr
  lane : Lane
deriving DecidableEq, Repr

/-- The faults a step can stop with: none. No command of the part stops it; FAILED and JAMMED are states
the manual gives and the model goes on in (R188, R60). -/
inductive Fault
deriving DecidableEq, Repr

/-- The refusals a step can stop with. -/
inductive Refusal
  /-- Raised by `exec` alone for a command without a meaning; every command of this model has one. Safe:
  the machine stops. -/
  | notModelled (mnemonic : String)
deriving DecidableEq, Repr

/-! ### The values a reset leaves -/

/-- The defaults of the settings table (R192, R131). -/
def Settings.defaults : Settings where
  wall := 20000
  cap := 5000
  safe := 1500
  announce := 2
  takeTimeout := 30
  intakeWait := 45
  slotTimeout := 45
  escrowTimeout := 180
  lockdownHold := 300
  vibration := 4
  strobeMinOn := 2
  binCapacity := 300
  position := Four.replicate { mode := .unused, denomination := none, capacity := 2000, lowMark := 100 }
  denominations := Eight.replicate none
  loop := Eight.replicate { role := .spare, supervised := false, filter := .ms200 }
  diagnostics := Eight.replicate true
  policy := .retract
  safeLane := false
  attending := none
  supervisor := none

/-- A cassette entry from a reset until SETUP_DONE (R1). -/
def Cassette.afterReset : Cassette where
  mode := .unused
  denomination := none
  count := 0
  value := none
  capacity := 2000
  lowMark := 100
  state := .unused
  badRun := 0
  cause := none
  lastRestock := none

/-- The replayed entry of a position with no RESTOCK in the journal (R16). -/
def ReplayEntry.unanchored : ReplayEntry where
  anchored := false
  count := 0
  denomination := none
  lastRestock := none
  kept := []
  suspect := true

/-- The empty fault set. -/
def FaultSet.none : FaultSet where
  openOff := false
  openOn := false
  overload := false
  shortSupply := false
  hot := false

/-- The empty stacker bundle (R191). -/
def Bundle.empty : Bundle := { kind := .empty, notes := 0, value := 0 }

/-- No closing cause (R188). -/
def Causes.none : Causes where
  driverTest := false
  converter := false
  journal := false
  transportModule := false
  transportDrawer := false
  purgeModule := false
  purgeDrawer := false
  drawer := false
  driver := false
  attack := false
  enclosure := false

/-- Homing not begun (R190). -/
def Homing.idle : Homing where
  running := false
  step := .module
  moduleNotes := 0
  trayNotes := 0
  escrowNotes := 0
  envelope := none

/-- A peer entry after a reset, in the given state (R163). -/
def Peer.afterReset (state : PeerState) : Peer where
  state := state
  cash := 0
  places := 0
  wall := none
  safe := none
  lock := none
  service := none
  heard := false
  heardAt := 0
  deadline := none

/-- The state of a peer entry after a reset: SELF, UNKNOWN below the lane count strap, or ABSENT
(R163). -/
def Peer.resetState (own : LaneNo) (laneCount : Nat) (n : LaneNo) : PeerState :=
  if n = own then .self else if n.val < laneCount then .unknown else .absent

/-- The peer table after a reset, built from the strap pins (R163). -/
def Peer.table (own : LaneNo) (laneCount : Nat) : Eight Peer where
  e0 := Peer.afterReset (Peer.resetState own laneCount 0)
  e1 := Peer.afterReset (Peer.resetState own laneCount 1)
  e2 := Peer.afterReset (Peer.resetState own laneCount 2)
  e3 := Peer.afterReset (Peer.resetState own laneCount 3)
  e4 := Peer.afterReset (Peer.resetState own laneCount 4)
  e5 := Peer.afterReset (Peer.resetState own laneCount 5)
  e6 := Peer.afterReset (Peer.resetState own laneCount 6)
  e7 := Peer.afterReset (Peer.resetState own laneCount 7)

/-- Every block as a reset leaves it, before the self-test: the values of R1, R18, R31, R58, R74, R96,
R106, R107, R110, R116, R121, R131, R141, R147 to R149, R159, R162, R163, R172, R174, R179, R188 and
R191. The readings of sensors, which no rule gives, are those of log entry 6; the time the tray reading has held
counts from the reset, as the clock does (R58; DESIGN CHOICE, log entry 5). -/
def Lane.afterReset (own : LaneNo) (laneCount : Nat) (cause : ResetCause) (queueLoss : Bool) : Lane where
  clock := 0
  sup :=
    { service := .starting, lane := own, laneCount := laneCount, resetCause := cause,
      queueLoss := queueLoss, powerLost := cause = .power, causes := Causes.none,
      driverTest := Eight.replicate false, converterFault := false, scanning := false,
      homing := Homing.idle, testRun := none, testFault := false, clearing := none,
      setupConsole := none, pending := Settings.defaults, wallBase := none }
  settings := Settings.defaults
  cass :=
    { entry := Four.replicate Cassette.afterReset, bin := { count := 0, capacity := 300 },
      denominations := Eight.replicate none, present := Four.replicate true,
      replay := Four.replicate ReplayEntry.unanchored }
  transport :=
    { pickList := [], path := [], pickNumber := 0, halted := false, lost := none, remix := none,
      stacker := Bundle.empty }
  payout := none
  drawer :=
    { position := .retracting, movement := some .homing, contents := .empty, owner := none,
      lastOwnerTag := none, presented := 0, counted := 0, waiting := false, counting := false,
      receiving := false, travel := none, take := none, wait := none, takeFilter := none,
      placementFilter := none, tray := false, traySince := 0, atEnd := none }
  intake := none
  envelope :=
    { path := .idle, record := none, slotTimer := none, entryFilter := none, dropTimer := none,
      entry := false, held := false, serial := 0, service := none, phase := .noService, epoch := 0 }
  journal :=
    { cells := [], present := true, queue := [], headSequence := none, op := none, writePage := none,
      nextSlot := 1, voids := 0, nextPrimary := 3968, lastPageSequence := 0, priorPageSequence := 0, spares := [],
      orderSpare := none, reserved := 0, highest := 0, state := .fault, lost := false }
  loops :=
    { entry := Eight.replicate
        { level := 0, filtered := none, candidate := none, latch := false, since := 0 },
      hits := [] }
  drivers :=
    { entry := Eight.replicate
        { commanded := false, diagnostics := true, live := FaultSet.none, latched := FaultSet.none,
          blanking := none, stage := FaultSet.none },
      hot := false, strobeMinOn := none, lampHold := none }
  lockdown := { state := .clear, hold := none, heldRecords := [] }
  ledgers :=
    { cash := 0, places := 0, peer := Peer.table own laneCount, announce := none, silence := none,
      isolated := false }
  bus := { queue := [], drops := 0, mute := .no, breakTimer := none }
  free := 0

/-- The machine right after a POWER reset whose self-test steps 1 to 4 passed: STARTING, the scan of the
cartridge running, no command waiting (R188, R189). The strap pins read lane 0 of a one-lane wall and the
cartridge is a fresh one (log entry 6). -/
def State.reset : State where
  pending := []
  lane :=
    { Lane.afterReset 0 1 .power true with
      sup := { (Lane.afterReset 0 1 .power true).sup with scanning := true } }

end Sys2Proof.Machine
end

