-- ==== Sys2Proof/Machine/Ops.lean ====
section
/-! DEFINITION. Ops: the operations every block shares: access to the tables, the cells of the cartridge,
the transmit queue (R183) with the frames that join it (R185, R186, R172), the drivers as their owners
command them (R141), and the lane lamp and shutter that follow the lane (R148). -/

namespace Sys2Proof

/-! ### Tables of four and of eight -/

/-- The entry of a position. -/
def Four.get {α : Type} (t : Four α) (i : Position) : α :=
  match i with
  | 0 => t.p0
  | 1 => t.p1
  | 2 => t.p2
  | 3 => t.p3

/-- The table with one entry replaced. -/
def Four.set {α : Type} (t : Four α) (i : Position) (x : α) : Four α :=
  match i with
  | 0 => { t with p0 := x }
  | 1 => { t with p1 := x }
  | 2 => { t with p2 := x }
  | 3 => { t with p3 := x }

/-- The table with one entry changed. -/
def Four.modify {α : Type} (t : Four α) (i : Position) (f : α → α) : Four α := t.set i (f (t.get i))

/-- The table with every entry changed. -/
def Four.map {α β : Type} (f : α → β) (t : Four α) : Four β := ⟨f t.p0, f t.p1, f t.p2, f t.p3⟩

/-- The entries in position order. -/
def Four.toList {α : Type} (t : Four α) : List α := [t.p0, t.p1, t.p2, t.p3]

/-- A table built from a function of the position. -/
def Four.ofFn {α : Type} (f : Position → α) : Four α := ⟨f 0, f 1, f 2, f 3⟩

/-- The entry of a number 0 to 7. -/
def Eight.get {α : Type} (t : Eight α) (i : Fin 8) : α :=
  match i with
  | 0 => t.e0
  | 1 => t.e1
  | 2 => t.e2
  | 3 => t.e3
  | 4 => t.e4
  | 5 => t.e5
  | 6 => t.e6
  | 7 => t.e7

/-- The table with one entry replaced. -/
def Eight.set {α : Type} (t : Eight α) (i : Fin 8) (x : α) : Eight α :=
  match i with
  | 0 => { t with e0 := x }
  | 1 => { t with e1 := x }
  | 2 => { t with e2 := x }
  | 3 => { t with e3 := x }
  | 4 => { t with e4 := x }
  | 5 => { t with e5 := x }
  | 6 => { t with e6 := x }
  | 7 => { t with e7 := x }

/-- The table with one entry changed. -/
def Eight.modify {α : Type} (t : Eight α) (i : Fin 8) (f : α → α) : Eight α := t.set i (f (t.get i))

/-- The table with every entry changed. -/
def Eight.map {α β : Type} (f : α → β) (t : Eight α) : Eight β :=
  ⟨f t.e0, f t.e1, f t.e2, f t.e3, f t.e4, f t.e5, f t.e6, f t.e7⟩

/-- The entries in order. -/
def Eight.toList {α : Type} (t : Eight α) : List α :=
  [t.e0, t.e1, t.e2, t.e3, t.e4, t.e5, t.e6, t.e7]

/-- A table built from a function of the number. -/
def Eight.ofFn {α : Type} (f : Fin 8 → α) : Eight α := ⟨f 0, f 1, f 2, f 3, f 4, f 5, f 6, f 7⟩

/-- The cassette positions in ascending order. -/
def positions : List Position := [0, 1, 2, 3]

/-- The numbers 0 to 7 in ascending order: lanes, loops, list indexes. -/
def eightNumbers : List (Fin 8) := [0, 1, 2, 3, 4, 5, 6, 7]

/-- The lane with the station's number, for a station that is a lane. -/
def stationLane (s : Station) : Option LaneNo :=
  if h : s.val < 8 then some ⟨s.val, h⟩ else none

/-- A station number 8 to 14: a console (00_scope.md, Station numbers). -/
def isConsole (s : Station) : Bool := 8 ≤ s.val && s.val ≤ 14

/-- A lane's station number. -/
def laneStation (n : LaneNo) : Station := ⟨n.val, by omega⟩

/-- The service states in which the lane queues STATUS frames (R172). -/
def Service.announces : Service → Bool
  | .setup | .closed | .opened => true
  | .starting | .failed => false

/-- The place of a driver in the table of R141. -/
def Driver.index : Driver → Fin 8
  | .drawerOut => 0
  | .drawerIn => 1
  | .shutter => 2
  | .envGate => 3
  | .imprint => 4
  | .silentRelay => 5
  | .strobe => 6
  | .laneLamp => 7

/-- The drivers in the order of R141. -/
def drivers : List Driver :=
  [.drawerOut, .drawerIn, .shutter, .envGate, .imprint, .silentRelay, .strobe, .laneLamp]

namespace Machine

/-! ### Time -/

/-- A timer started afresh at a duration in milliseconds. -/
def Lane.timer (l : Lane) (ms : Nat) : Timer := some (l.clock + ms)

/-! ### The cells of the cartridge (R114)

An unlisted cell reads all ones, as every bit of the cartridge starts. -/

/-- The byte at an address. -/
def Memory.read : List Host.Cell → Nat → Byte
  | [], _ => 0xFF#8
  | (a, b) :: rest, x => if x = a then b else if x < a then 0xFF#8 else Memory.read rest x

/-- The cells with one byte replaced, in canonical form. -/
def Memory.write : List Host.Cell → Nat → Byte → List Host.Cell
  | [], x, v => if v = 0xFF#8 then [] else [(x, v)]
  | (a, b) :: rest, x, v =>
    if x = a then (if v = 0xFF#8 then rest else (x, v) :: rest)
    else if x < a then (if v = 0xFF#8 then (a, b) :: rest else (x, v) :: (a, b) :: rest)
    else (a, b) :: Memory.write rest x v

/-- No listed address is at or below the bound, and the list is in canonical form above it. -/
def Memory.wfAbove : Option Nat → List Host.Cell → Bool
  | _, [] => true
  | bound, (a, b) :: rest =>
    (match bound with | none => true | some n => n < a) && b != 0xFF#8 && Memory.wfAbove (some a) rest

/-- The canonical form: addresses strictly rising, no cell at all ones. -/
def Memory.wf (m : List Host.Cell) : Bool := Memory.wfAbove none m

/-- The address of byte `k` of a slot: 4,096 pages of 16 slots of 16 bytes (R114). -/
def slotAddress (page slot k : Nat) : Nat := page * 256 + slot * 16 + k

/-- Byte `k` of sixteen, byte 0 most significant (R196). -/
def slotByte (v : SlotBits) (k : Nat) : Byte := BitVec.ofNat 8 (v.toNat >>> (8 * (15 - k)))

/-- The sixteen bytes of a slot from the given byte on, as one number. -/
def Memory.readFrom (m : List Host.Cell) (page slot : Nat) : Nat → Nat → Nat
  | 0, acc => acc
  | n + 1, acc =>
    Memory.readFrom m page slot n (acc * 256 + (Memory.read m (slotAddress page slot (15 - n))).toNat)

/-- What a slot of a page reads. -/
def Memory.readSlot (m : List Host.Cell) (page slot : Nat) : SlotBits :=
  BitVec.ofNat 128 (Memory.readFrom m page slot 16 0)

/-- The cells with the first `n` bytes of a slot replaced. -/
def Memory.writeBytes (m : List Host.Cell) (page slot : Nat) (v : SlotBits) : Nat → List Host.Cell
  | 0 => m
  | n + 1 => Memory.write (Memory.writeBytes m page slot v n) (slotAddress page slot n) (slotByte v n)

/-- A programming clears bits and sets none: the slot then holds the AND of what it held and what is
programmed (R114). -/
def Memory.program (m : List Host.Cell) (page slot : Nat) (pattern : SlotBits) : List Host.Cell :=
  Memory.writeBytes m page slot (Memory.readSlot m page slot &&& pattern) 16

/-- The canonical form of any list of cells: each is programmed into a blank cartridge (R114). -/
def Memory.canonical (cells : List Host.Cell) : List Host.Cell :=
  cells.foldl (fun m c => Memory.write m c.1 (Memory.read m c.1 &&& c.2)) []

/-! ### Kind codes (R176, R196) -/

/-- The codes of the request kinds, which a REPLY carries. -/
def kindPayout : Fin 32 := 5
def kindRecall : Fin 32 := 6
def kindIntake : Fin 32 := 7
def kindKeep : Fin 32 := 8
def kindGiveback : Fin 32 := 9
def kindSlot : Fin 32 := 10
def kindInventory : Fin 32 := 11
def kindRestock : Fin 32 := 12
def kindJournal : Fin 32 := 13
def kindLoops : Fin 32 := 14
def kindDrivers : Fin 32 := 15
def kindSafeOpen : Fin 32 := 16
def kindSafeClose : Fin 32 := 17
def kindResume : Fin 32 := 18
def kindLane : Fin 32 := 19
def kindTest : Fin 32 := 20
def kindRestart : Fin 32 := 21
def kindRollcall : Fin 32 := 22
def kindSetup : Fin 32 := 23
def kindSetupDone : Fin 32 := 24

/-! ### The transmit queue (R183) -/

/-- The class of a frame's kind (R176). -/
def TxFrame.cls (f : TxFrame) : Nat :=
  match f.body with
  | .lockdown _ => 0
  | .claim _ _ | .release _ _ | .serviceBegin _ | .serviceEnd _ | .emptied _ => 1
  | .reply _ _ _ | .notice _ => 2
  | .status _ => 3

/-- A frame as it joins the queue: no failed attempt, no mark. -/
def TxFrame.fresh (body : TxBody) (dest : Station) (tag : Tag) : TxFrame :=
  { body := body, dest := dest, tag := tag, failed := 0, begun := false, onLine := false,
    abandoned := false, again := false }

/-- A STATUS frame. -/
def TxFrame.isStatus (f : TxFrame) : Bool := f.cls == 3

/-- The place of a frame: ordered by class, and by the order of queuing within a class. -/
def txInsert (f : TxFrame) : List TxFrame → List TxFrame
  | [] => [f]
  | g :: rest => if g.cls ≤ f.cls then g :: txInsert f rest else f :: g :: rest

/-- The frames of classes 2 and 3 in the queue. -/
def txLow (q : List TxFrame) : Nat := (q.filter (fun f => 2 ≤ f.cls)).length

/-- The queue without the newest frame that meets the test. -/
def txRemoveNewest (p : TxFrame → Bool) (q : List TxFrame) : List TxFrame := (q.reverse.eraseP p).reverse

/-- Room for a frame of class 2 or a STATUS. -/
def txHasLowRoom (q : List TxFrame) : Bool := txLow q < Config.txLowLimit && q.length < Config.txLimit

/-- A STATUS whose attempt is not on the line. -/
def TxFrame.idleStatus (f : TxFrame) : Bool := f.isStatus && !f.onLine

/-- A class 2 frame whose attempt is not on the line. -/
def TxFrame.idleClass2 (f : TxFrame) : Bool := f.cls == 2 && !f.onLine

/-- The queue after a frame of class 0 or 1 joins, and whether it was dropped on arrival. -/
def txJoinHigh (q : List TxFrame) (f : TxFrame) : List TxFrame × Bool :=
  if q.length < Config.txLimit then (txInsert f q, false)
  else if q.any TxFrame.idleStatus then (txInsert f (txRemoveNewest TxFrame.idleStatus q), false)
  else if q.any TxFrame.idleClass2 then (txInsert f (txRemoveNewest TxFrame.idleClass2 q), false)
  else (q, true)

/-- The queue after a frame of class 2 joins: it may take the place of a pending STATUS, or is lost. -/
def txJoinMiddle (q : List TxFrame) (f : TxFrame) : List TxFrame :=
  if txHasLowRoom q then txInsert f q
  else if q.any TxFrame.idleStatus then txInsert f (txRemoveNewest TxFrame.idleStatus q)
  else q

/-- The queue after a STATUS joins: it takes a queued STATUS's place, or marks one on the line. -/
def txJoinStatus (q : List TxFrame) (f : TxFrame) : List TxFrame :=
  if q.any TxFrame.isStatus then
    q.map (fun g => if g.isStatus then (if g.onLine then { g with again := true } else f) else g)
  else if txHasLowRoom q then txInsert f q
  else q

/-- A frame joins the transmit queue by its class; the flag says it was dropped on arrival (R183). -/
def txJoin (q : List TxFrame) (f : TxFrame) : List TxFrame × Bool :=
  if f.cls ≤ 1 then txJoinHigh q f
  else if f.cls = 2 then (txJoinMiddle q f, false)
  else (txJoinStatus q f, false)

/-- The lane with its transmit queue replaced. -/
def Lane.withTx (l : Lane) (q : List TxFrame) : Lane := { l with bus := { l.bus with queue := q } }

/-- A frame is queued; the flag says it was dropped on arrival. -/
def Lane.send? (l : Lane) (body : TxBody) (dest : Station) (tag : Tag) : Lane × Bool :=
  let r := txJoin l.bus.queue (TxFrame.fresh body dest tag)
  (l.withTx r.1, r.2)

/-- A frame whose drop on arrival has no consequence at its owner is queued (R173, R150, R178). -/
def Lane.send (l : Lane) (body : TxBody) (dest : Station) (tag : Tag) : Lane := (l.send? body dest tag).1

/-- The destination that addresses every station (R175). -/
def everyStation : Station := 15

/-- A REPLY is queued to the console named, with the request's tag (R185). -/
def Lane.reply (l : Lane) (h : Sender) (kind : Fin 32) (code : ReplyCode) (body : ReplyBody := .empty) :
    Lane :=
  l.send (.reply kind code body) h.source h.tag

/-- A NOTICE for one console; one not yet named gets none (R186). -/
def Lane.noticeTo (l : Lane) (console : Option Station) (tag : Tag) (n : Notice) : Lane :=
  match console with
  | none => l
  | some c => l.send (.notice n) c tag

/-- A NOTICE to the supervisor console. -/
def Lane.noticeSupervisor (l : Lane) (tag : Tag) (n : Notice) : Lane :=
  l.noticeTo l.settings.supervisor tag n

/-- A NOTICE for both consoles: the attending console's first, or one frame when they are the same
(R186). It concerns no operation, so its tag is 0. -/
def Lane.noticeBoth (l : Lane) (n : Notice) : Lane :=
  if l.settings.attending = l.settings.supervisor then l.noticeTo l.settings.attending 0 n
  else (l.noticeTo l.settings.attending 0 n).noticeTo l.settings.supervisor 0 n

/-- A STATUS is queued and the announce timer restarts (R172); its content waits for an attempt. -/
def Lane.queueStatus (l : Lane) : Lane :=
  if l.sup.service.announces then
    let l := l.send (.status none) everyStation 0
    { l with ledgers := { l.ledgers with announce := l.timer (l.settings.announce * 1000) } }
  else l

/-- A RELEASE of a claimed share is queued (R37, R38, R98, R162). -/
def Lane.sendRelease (l : Lane) (q : Quantity) (amount : Nat) (tag : Tag) : Lane :=
  l.send (.release q amount) everyStation tag

/-- SETUP_DONE has been accepted since the last reset (R192). -/
def Lane.setupDone (l : Lane) : Bool := l.sup.service == .closed || l.sup.service == .opened

/-- A frame of this lane whose attempt is on the line. -/
def Lane.onLine? (l : Lane) : Option TxFrame := l.bus.queue.find? (·.onLine)

/-- The queue without the frame on the line. -/
def Lane.removeOnLine (l : Lane) : Lane := l.withTx (l.bus.queue.eraseP (·.onLine))

/-- The frame on the line is off it, its marks otherwise kept (R177, R180). -/
def Lane.takeOffLine (l : Lane) : Lane :=
  l.withTx (l.bus.queue.map (fun f => { f with onLine := false }))

/-! ### Drivers as their owners command them (R141) -/

/-- A set with no kind in it. -/
def FaultSet.isEmpty (s : FaultSet) : Bool :=
  !(s.openOff || s.openOn || s.overload || s.shortSupply || s.hot)

/-- The output is on while it is commanded on and neither OVERLOAD nor HOT is latched. -/
def DriverEntry.output (e : DriverEntry) : Bool :=
  e.commanded && !(e.latched.overload || e.latched.hot)

/-- After a change of the entry: if its output switched, the live conditions of the state just left
leave the live set, HOT apart, and the blanking starts (R141, R142). -/
def DriverEntry.switched (clock : Nat) (before : Bool) (e : DriverEntry) : DriverEntry :=
  if e.output = before then e
  else { e with live := { FaultSet.none with hot := e.live.hot }
                blanking := some (clock + Config.blankingTime) }

/-- A driver's entry. -/
def Lane.driver (l : Lane) (d : Driver) : DriverEntry := l.drivers.entry.get d.index

/-- The lane with a driver's entry replaced. -/
def Lane.withDriver (l : Lane) (d : Driver) (e : DriverEntry) : Lane :=
  { l with drivers := { l.drivers with entry := l.drivers.entry.set d.index e } }

/-- A driver's owner commands it on or off. -/
def Lane.command (l : Lane) (d : Driver) (on : Bool) : Lane :=
  let e := l.driver d
  l.withDriver d (DriverEntry.switched l.clock e.output { e with commanded := on })

/-- A driver with a latched fault (R143). -/
def Lane.latchedFault (l : Lane) (d : Driver) : Bool := !(l.driver d).latched.isEmpty

/-- A DRAWER_OUT or DRAWER_IN driver with a latched fault (R61). -/
def Lane.drawerDriverFault (l : Lane) : Bool := l.latchedFault .drawerOut || l.latchedFault .drawerIn

/-! ### Lamp and shutter (R148) -/

/-- The lamp's demand. -/
def Lane.lampDemand (l : Lane) : Bool := l.sup.service == .opened && l.lockdown.state == .clear

/-- The lamp's commanded state is changed to its demand, and the hold starts. -/
def Lane.switchLamp (l : Lane) : Lane :=
  if (l.driver .laneLamp).commanded = l.lampDemand then l
  else
    let l' := l.command .laneLamp l.lampDemand
    { l' with drivers := { l'.drivers with lampHold := l'.timer Config.lampHoldTime } }

/-- A change of the lamp's demand is applied at once unless the hold runs. -/
def Lane.followLamp (l : Lane) : Lane := if l.drivers.lampHold.isSome then l else l.switchLamp

/-- The shutter's commanded state follows the service state and the lockdown state at once. -/
def Lane.followShutter (l : Lane) : Lane :=
  l.command .shutter (l.setupDone && l.lockdown.state == .clear)

/-- Lamp and shutter after a change of the service state or of the lockdown state. -/
def Lane.followLane (l : Lane) : Lane := l.followShutter.followLamp

end Machine
end Sys2Proof
end

