-- ==== Sys2Proof/Machine/Custody.lean ====
section
/-! DEFINITION. Custody: how every block uses the custody journal (chapter 7): the free slots, the
reservations, the records that join the write queue and the state that follows from the page map. -/

namespace Sys2Proof.Machine

/-- The free slots of a page map: what is left of the write page, and 15 for each primary page not yet
opened or skipped (R121). DESIGN CHOICE, log entry 14: a page past the end of the walk is one of these whatever
its header reads. -/
def Journal.free (j : Journal) : Nat :=
  (if j.writePage.isSome then 16 - j.nextSlot else 0) + 15 * (Config.primaryPages - j.nextPrimary)

/-- The spare pages opened or skipped (R119, R121). -/
def Journal.sparesUsed (j : Journal) : Nat := j.spares.length

/-- The slots the operations in progress hold and have not used (R56, R94, R96, R71). -/
def Lane.heldSlots (l : Lane) : Nat :=
  (match l.payout with | none => 0 | some p => p.slots)
    + (match l.intake with | none => 0 | some i => i.slots)
    + (match l.envelope.record with | none => 0 | some r => if r.abandoned then 0 else 1)
    + (match l.sup.clearing with | none => 0 | some c => c.newSlot.toNat)

/-- The journal holds neither FAULT nor ABSENT (R123, R124). -/
def JournalState.works : JournalState → Bool
  | .ready | .low | .full => true
  | .fault | .absent => false

/-- The state the page map gives (R123). -/
def journalStateOf (free reserved : Nat) : JournalState :=
  if free - reserved ≤ 6 then .full else if free ≤ Config.journalLowMark then .low else .ready

/-- The event of a NOTICE JOURNAL for a state entered; none for READY (R123). -/
def JournalState.event : JournalState → Option JournalEvent
  | .ready => none
  | .low => some .low
  | .full => some .full
  | .fault | .absent => some .fault

/-- The journal enters a state, with its notice when that is a change (R123). -/
def Lane.enterJournal (l : Lane) (st : JournalState) : Lane :=
  if l.journal.state = st then l
  else
    let l := { l with journal := { l.journal with state := st } }
    match st.event with
    | none => l
    | some e => l.noticeBoth (.journal e l.journal.free)

/-- The journal after its free or reserved slots changed: the reserved slots are lowered to the free ones
and the state is derived again, unless FAULT or ABSENT holds it (R123, R125). -/
def Lane.settleJournal (l : Lane) : Lane :=
  if l.journal.state.works then
    let l := { l with journal := { l.journal with reserved := min l.journal.reserved l.journal.free } }
    l.enterJournal (journalStateOf l.journal.free l.journal.reserved)
  else l

/-- A reservation of `n` slots would be granted (R122). -/
def Lane.canReserve (l : Lane) (n : Nat) : Bool :=
  (l.journal.state == .ready || l.journal.state == .low)
    && l.journal.reserved + n + Config.standingReserve ≤ l.journal.free
    && l.journal.queue.length + l.heldSlots + n ≤ Config.writeQueueLimit

/-- A reservation of `n` slots is granted (R122). -/
def Lane.reserve (l : Lane) (n : Nat) : Lane :=
  { l with journal := { l.journal with reserved := l.journal.reserved + n } }.settleJournal

/-- Slots a reservation did not use are returned (R122). -/
def Lane.giveBack (l : Lane) (n : Nat) : Lane :=
  if n = 0 then l
  else { l with journal := { l.journal with reserved := l.journal.reserved - n } }.settleJournal

/-- The wall seconds stamped on a record that joins now (R117, R192). -/
def Lane.wallSeconds (l : Lane) : BitVec 32 :=
  let sum := match l.sup.wallBase with
    | none => l.clock / 1000
    | some (base, since) => base + (l.clock - since) / 1000
  if sum < 2 ^ 32 then BitVec.ofNat 32 sum else Config.wallSecondsPastRange sum

/-- A record joins the newest end of the write queue (R116). -/
def Lane.enqueue (l : Lane) (r : Record) (reserved : Bool) : Lane :=
  { l with journal := { l.journal with
      queue := l.journal.queue ++ [{ record := r, seconds := l.wallSeconds, reserved := reserved }] } }

/-- A record joins under a reservation its owner holds (R116). -/
def Lane.joinReserved (l : Lane) (r : Record) : Lane := l.enqueue r true

/-- An unreserved record joins, or is dropped on arrival with JOURNAL_LOST (R116). -/
def Lane.joinUnreserved (l : Lane) (r : Record) : Lane :=
  if l.journal.queue.length + l.heldSlots < Config.writeQueueLimit then l.enqueue r false
  else { l with journal := { l.journal with lost := true } }

end Sys2Proof.Machine
end

