-- ==== Sys2Proof/Machine/Flags.lean ====
section
/-! DEFINITION. Flags: what the lane derives from its registers: the counted peers and the effective
limits (R168, R169), the bin's state (R7), the drawer's freedom (R61) and the conditions that STATUS and
ROLLCALL carry (R187). -/

namespace Sys2Proof.Machine

/-! ### Peers (R168, R169) -/

/-- The number is a peer's: not the lane's own. -/
def Lane.isPeer (l : Lane) (n : LaneNo) : Bool := n != l.sup.lane

/-- The cash counted for a peer entry (R168); C is this lane's cap. -/
def Peer.countedCash (cap : Nat) (p : Peer) : Nat :=
  match p.state with
  | .fresh => p.cash
  | .stale | .unknown | .silent => cap
  | .absent | .self => 0

/-- The places counted for a peer entry (R168); an UNKNOWN one counts 0 in the near-full total. -/
def Peer.countedPlaces (p : Peer) : Nat :=
  match p.state with
  | .fresh | .stale => p.places
  | .unknown | .silent | .absent | .self => 0

/-- The counted peer cash. -/
def Lane.peerCash (l : Lane) : Nat :=
  ((l.ledgers.peer.toList).map (Peer.countedCash l.settings.cap)).sum

/-- The counted peer places. -/
def Lane.peerPlaces (l : Lane) : Nat := ((l.ledgers.peer.toList).map Peer.countedPlaces).sum

/-- A peer entry is UNKNOWN (R99, R171). -/
def Lane.peerUnknown (l : Lane) : Bool := l.ledgers.peer.toList.any (fun p => p.state == .unknown)

/-- An entry that takes part in W_eff, S_eff and MISMATCH (R169). -/
def Peer.takesPart (p : Peer) : Bool :=
  p.state == .fresh && (p.service == some .closed || p.service == some .opened)

/-- W_eff (R169). -/
def Lane.wallEff (l : Lane) : Nat :=
  l.ledgers.peer.toList.foldl
    (fun m p => if p.takesPart then min m (p.wall.getD m) else m) l.settings.wall

/-- S_eff (R169). -/
def Lane.safeEff (l : Lane) : Nat :=
  l.ledgers.peer.toList.foldl
    (fun m p => if p.takesPart then min m (p.safe.getD m) else m) l.settings.safe

/-- The entry's W or S differs from the lane's own (R169). -/
def Lane.differs (l : Lane) (p : Peer) : Bool :=
  p.takesPart && (p.wall.any (· != l.settings.wall) || p.safe.any (· != l.settings.safe))

/-- The lanes whose W or S differs. -/
def Lane.differing (l : Lane) : Eight Bool := l.ledgers.peer.map l.differs

/-- The condition MISMATCH (R169). -/
def Lane.mismatch (l : Lane) : Bool := l.differing.toList.any id

/-- NOTICE MISMATCH to the supervisor console (R169). -/
def Lane.sendMismatch (l : Lane) : Lane :=
  l.noticeSupervisor 0
    (.mismatch l.settings.wall l.settings.safe l.wallEff l.safeEff l.differing)

/-- After an event that may have changed the views: NOTICE MISMATCH if MISMATCH changed, or if an effective
limit changed while it is set (R169). One event that does both sends one notice (DESIGN CHOICE, log entry 23:
R169 names each event and does not say whether one that is both counts twice). -/
def Lane.afterViews (before after : Lane) : Lane :=
  if after.setupDone
      && (before.mismatch != after.mismatch
        || (after.mismatch && (before.wallEff != after.wallEff || before.safeEff != after.safeEff))) then
    after.sendMismatch
  else after

/-- The cash admission test (R170). -/
def Lane.cashAdmitted (l : Lane) (amount : Nat) : Bool :=
  l.ledgers.cash + amount + l.peerCash ≤ l.wallEff

/-- The places admission test, where it is not withheld (R171). -/
def Lane.placeAdmitted (l : Lane) : Bool := l.ledgers.places + 1 + l.peerPlaces ≤ l.safeEff

/-! ### The bin, the loops, the drawer -/

/-- The state of the purge bin (R7). Before SETUP_DONE the held count may pass the default capacity: the
bin is then full (DEDUCED, log entry 11). -/
def Bin.state (b : Bin) : BinState :=
  if b.capacity ≤ b.count then .full
  else if 9 * b.capacity ≤ 10 * b.count then .nearFull
  else .ok

/-- The free space of the bin (R7). -/
def Lane.binFree (l : Lane) : Nat := l.cass.bin.capacity - l.cass.bin.count

/-- SHORT and OPEN, the trouble classes (R131). -/
def LoopClass.trouble : LoopClass → Bool
  | .short | .cut => true
  | .normal | .active => false

/-- The class of a level code (R132). -/
def classify (supervised : Bool) (code : Byte) : LoopClass :=
  let n := code.toNat
  if supervised then
    if n ≤ 31 then .short else if n ≤ 111 then .normal else if n ≤ 191 then .active else .cut
  else if n ≤ 127 then .normal else .active

/-- The raw class of a loop: the class of its latest level code (R131, R132). -/
def Lane.rawClass (l : Lane) (n : LoopNo) : LoopClass :=
  classify (l.settings.loop.get n).supervised (l.loops.entry.get n).level

/-- Some loop of a role has a filtered class that meets the test. -/
def Lane.anyLoop (l : Lane) (role : LoopRole) (test : LoopClass → Bool) : Bool :=
  eightNumbers.any (fun n => (l.settings.loop.get n).role == role && (l.loops.entry.get n).filtered.any test)

/-- A HOLDUP loop is in trouble (R135). -/
def Lane.holdupTrouble (l : Lane) : Bool := l.anyLoop .holdup LoopClass.trouble

/-- A HOLDUP loop's filtered class is ACTIVE (R135). -/
def Lane.holdupActive (l : Lane) : Bool := l.anyLoop .holdup (· == .active)

/-- The door alarm cause (R136). -/
def Lane.doorAlarm (l : Lane) : Bool :=
  l.anyLoop .safeDoor (· == .active) && l.envelope.phase == .noService

/-- A cause of the strobe is present (R147). -/
def Lane.strobeCause (l : Lane) : Bool := l.doorAlarm || l.sup.causes.attack

/-- No run is in progress: the travel timer is stopped (R59, R67). DESIGN CHOICE, log entry 13: a re-drive counts
as a run in progress for R61 and R71, at HOME too, where its movement is none. -/
def Drawer.atRest (d : Drawer) : Bool := d.movement.isNone && d.travel.isNone

/-- The drawer is free (R61). -/
def Drawer.free (d : Drawer) : Bool :=
  d.owner.isNone && d.position == .home && d.contents == .empty && d.atRest

/-- The lockdown state is LOCKED or RELEASABLE. -/
def Lane.locked (l : Lane) : Bool := l.lockdown.state != .clear

/-- The bus station is MUTE (R179). -/
def Lane.muted (l : Lane) : Bool := l.bus.mute != .no

/-- A PAYOUT or a SLOT is refused LINE (R33, R99). -/
def Lane.offLine (l : Lane) : Bool := l.muted || l.ledgers.isolated

/-- A closing cause is held (R188). -/
def Causes.any (c : Causes) : Bool :=
  c.driverTest || c.converter || c.journal || c.transportModule || c.transportDrawer || c.purgeModule
    || c.purgeDrawer || c.drawer || c.driver || c.attack || c.enclosure

/-! ### The conditions (R187) -/

/-- CASSETTE_LOW (R12). -/
def Cassette.low (c : Cassette) : Bool :=
  (c.mode == .dispense || c.mode == .recycle) && (c.state == .low || c.state == .empty)

/-- CASSETTE_FAULT (R12). -/
def Cassette.faulted (c : Cassette) : Bool := c.state == .fault || c.state == .suspect || c.state == .out

/-- SAFE_NEAR_FULL (R112). -/
def Lane.safeNearFull (l : Lane) : Bool := 9 * l.safeEff ≤ 10 * (l.ledgers.places + l.peerPlaces)

/-- The fourteen conditions in the order of R187. -/
def Lane.conditionList (l : Lane) : List Bool :=
  [l.locked,
   l.cass.entry.toList.any Cassette.low,
   l.cass.entry.toList.any Cassette.faulted,
   l.cass.bin.state != .ok,
   l.safeNearFull,
   l.journal.state == .low || l.journal.state == .full,
   l.journal.state == .fault || l.journal.state == .absent,
   l.loops.entry.toList.any Loop.latch,
   l.loops.entry.toList.any (fun e => e.filtered.any LoopClass.trouble),
   l.drivers.entry.toList.any (fun e => !e.latched.isEmpty),
   l.drawer.contents != .empty || l.drawer.position == .jammed,
   match l.intake with | none => false | some i => !i.escrow.isEmpty,
   l.mismatch,
   l.sup.powerLost]

/-- A number with bit n set for each place n of the list that holds. -/
def bitsOf : List Bool → Nat
  | [] => 0
  | b :: rest => b.toNat + 2 * bitsOf rest

/-- The lane's condition set, bits 0 to 13 (R196). -/
def Lane.conditions (l : Lane) : BitVec 16 := BitVec.ofNat 16 (bitsOf l.conditionList)

/-- The condition set of a STATUS, with JOURNAL_LOST at bit 14 (R172, R196). -/
def Lane.statusConditions (l : Lane) : BitVec 16 :=
  BitVec.ofNat 16 (bitsOf (l.conditionList ++ [l.journal.lost]))

/-- The content of a STATUS as its transmission starts (R172). -/
def Lane.statusContent (l : Lane) : StatusContent where
  service := l.sup.service
  lock := l.lockdown.state
  cash := l.ledgers.cash
  places := l.ledgers.places
  wall := l.settings.wall
  safe := l.settings.safe
  conditions := l.statusConditions
  free := l.journal.free

end Sys2Proof.Machine
end

