-- ==== Sys2Proof/Machine/Table.lean ====
section
/-! DEFINITION. Table: the cassette table's counting rules and the purge bin (R2 to R8, R12). -/

namespace Sys2Proof.Machine

/-- The derived states (R2). -/
def CassState.derived : CassState → Bool
  | .ok | .low | .empty | .full => true
  | .fault | .suspect | .out | .unused => false

/-- The state a cassette's count gives (R2). -/
def Cassette.derive (c : Cassette) : CassState :=
  match c.mode with
  | .unused => .unused
  | .deposit => if c.count = 0 then .empty else if c.count = c.capacity then .full else .ok
  | .dispense | .recycle =>
    if c.count = 0 then .empty else if c.count = c.capacity then .full
    else if c.count ≤ c.lowMark then .low else .ok

/-- A new count; a derived state follows it, a held one stays (R2). -/
def Cassette.recount (c : Cassette) (n : Nat) : Cassette :=
  let c' := { c with count := n }
  { c' with state := if c.state.derived then c'.derive else c.state }

/-- A failure at the position: a derived state or SUSPECT becomes FAULT (R4, R5). -/
def Cassette.fail (c : Cassette) (cause : FaultCause) : Cassette :=
  if c.state.derived || c.state == .suspect then { c with state := .fault, cause := some cause } else c

/-- A check result leaves the run and the state as they are: the cassette is FAULT or OUT, or its run has
reached 3, where it stays until a RESTOCK or a reset, also when the cassette has since become SUSPECT (R4). -/
def Cassette.runHeld (c : Cassette) : Bool := c.state == .fault || c.state == .out || 3 ≤ c.badRun

/-- A bad pick's effect on the run: the third makes the cassette FAULT (R4). -/
def Cassette.badPick (c : Cassette) (cause : FaultCause) : Cassette :=
  if c.runHeld then c
  else if c.badRun + 1 = 3 then Cassette.fail { c with badRun := 3 } cause
  else { c with badRun := c.badRun + 1 }

/-- A pick made from the position (R3). -/
def Cassette.picked (c : Cassette) : Cassette := c.recount (c.count - 1)

/-- A check result GOOD (R4). -/
def Cassette.good (c : Cassette) : Cassette :=
  if c.runHeld then c else { c with badRun := 0 }

/-- A check result REJECT (R3, R4). -/
def Cassette.rejected (c : Cassette) : Cassette := c.badPick .rejects

/-- A check result MISS: the note returns to the count (R3, R4). A MISS that moves the count's state and is
the third bad pick as well changes the state once, to FAULT (DESIGN CHOICE, log entry 23). -/
def Cassette.missed (c : Cassette) : Cassette := (c.recount (c.count + 1)).badPick .miss

/-- A check result DOUBLE: a second note left; at count 0 a derived state becomes SUSPECT (R3, R4). As with a
MISS, the state in which the result ends is the one change noticed (DESIGN CHOICE, log entry 23). -/
def Cassette.doubled (c : Cassette) : Cassette :=
  let c' := if c.count = 0 then { c with state := if c.state.derived then .suspect else c.state }
    else c.recount (c.count - 1)
  c'.badPick .rejects

/-- A note stacked in by a KEEP; its value counts for a DEPOSIT cassette (R6). -/
def Cassette.stacked (c : Cassette) (value : Nat) : Cassette :=
  let c := { c with value := if c.mode = CassMode.deposit then some (c.value.getD 0 + value) else c.value }
  c.recount (c.count + 1)

/-- An entry of the table changes, with one NOTICE CASSETTE_CHANGE when its state at the end of the event is
not the one before it (R12; log entry 23). -/
def Lane.setCassette (l : Lane) (i : Position) (c : Cassette) : Lane :=
  let before := (l.cass.entry.get i).state
  let l := { l with cass := { l.cass with entry := l.cass.entry.set i c } }
  if c.state = before then l
  else l.noticeBoth (.cassetteChange (some i) (.inl c.state) c.cause c.count)

/-- The bin changes, with NOTICE CASSETTE_CHANGE when its state does (R7, R12). -/
def Lane.setBin (l : Lane) (b : Bin) : Lane :=
  let before := l.cass.bin.state
  let l := { l with cass := { l.cass with bin := b } }
  if b.state = before then l else l.noticeBoth (.cassetteChange none (.inr b.state) none b.count)

/-- The bin has room for a note: below its capacity, or below 400 while homing runs (R8, R18). -/
def Lane.binRoom (l : Lane) : Bool :=
  if l.sup.service == .starting then l.cass.bin.count < Config.homingBinRoom
  else l.cass.bin.count < l.cass.bin.capacity

/-- A note is offered to the bin: the lane after an acceptance, or none when the bin refuses (R8). -/
def Lane.binAccept (l : Lane) : Option Lane :=
  if l.binRoom then some (l.setBin { l.cass.bin with count := l.cass.bin.count + 1 }) else none

/-- The value the denomination list gives an index; none for an index with no entry (R9). -/
def Lane.listValue (l : Lane) (i : ListIndex) : Option Nat := l.cass.denominations.get i

/-- The value of an escrow note (R75). -/
def Lane.noteValue (l : Lane) (n : EscrowNote) : Nat := (l.listValue n.index).getD 0

end Sys2Proof.Machine
end

