-- ==== Sys2Proof/Machine/Closing.lean ====
section
/-! DEFINITION. Closing: how a job's claim is given up (R38, R100), what a cancelling event does to the
envelope path (R100, R104 to R106), and how the lane leaves OPEN (R55, R105, R188). -/

namespace Sys2Proof.Machine

/-- A CLAIM of a kind that its owner has not abandoned. -/
def TxFrame.liveClaim (q : Quantity) (f : TxFrame) : Bool :=
  match f.body with
  | .claim q' _ => q' == q && !f.abandoned
  | _ => false

/-- The owner of the live CLAIM of a kind abandons it: withdrawn if no attempt of it has begun, marked
abandoned otherwise (R38, R100, R183). -/
def Lane.abandonClaim (l : Lane) (q : Quantity) : Lane :=
  if l.bus.queue.any (fun f => f.liveClaim q && !f.begun) then
    l.withTx (l.bus.queue.eraseP (fun f => f.liveClaim q && !f.begun))
  else l.withTx (l.bus.queue.map (fun f => if f.liveClaim q then { f with abandoned := true } else f))

/-- The payout waits for the wall's decision (R31). -/
def Payout.undecided (p : Payout) : Bool := p.state == .staged || p.state == .claiming

/-- A payout in STAGED or CLAIMING ends without its claim's decision: the claim is abandoned, the
reservation returned and the PAYOUT answered (R35, R53 to R55). A NOTICE JOURNAL that the returned slots cause is
queued before the REPLY (DESIGN CHOICE, log entry 23: R35 and R123 give the two no order). -/
def Lane.endUndecided (l : Lane) (p : Payout) (code : ReplyCode) : Lane :=
  let l := l.abandonClaim .cash
  let l := ({ l with payout := none } : Lane).giveBack p.slots
  l.reply ⟨p.console, p.tag⟩ kindPayout code

/-- A current payout in STAGED or CLAIMING ends; any other stays (R54, R55). -/
def Lane.dropUndecided (l : Lane) (code : ReplyCode) : Lane :=
  match l.payout with
  | none => l
  | some p => if p.undecided then l.endUndecided p code else l

/-- The path at the end of a record that a latched fault may have marked (R100, R104). -/
def pathAtEnd (fault : Bool) : PathState := if fault then .fault else .idle

/-- A PLACE claim is given back: a RELEASE is queued and own places held falls by 1, not below 0 (R98). -/
def Lane.releasePlace (l : Lane) (tag : Tag) : Lane :=
  let l := l.sendRelease .place 1 tag
  { l with ledgers := { l.ledgers with places := l.ledgers.places - 1 } }

/-- A record in STAGED or CLAIMING is cancelled (R100). One already abandoned is only marked for FAULT. -/
def Lane.cancelRecord (l : Lane) (r : EnvelopeRecord) (code : ReplyCode) (fault : Bool) : Lane :=
  if r.abandoned then
    { l with envelope := { l.envelope with record := some { r with faultAtEnd := r.faultAtEnd || fault } } }
  else
    let l := l.abandonClaim .place
    let l : Lane :=
      if l.envelope.path == .staged then
        { l with envelope := { l.envelope with record := none, path := pathAtEnd fault } }
      else
        { l with envelope := { l.envelope with
            record := some { r with abandoned := true, faultAtEnd := fault } } }
    (l.giveBack 1).reply ⟨r.console, r.tag⟩ kindSlot code

/-- An OPEN path is closed on no envelope: gate off, place released, reservation returned, NOTICE sent
(R102, R104 to R106). -/
def Lane.closeSlot (l : Lane) (r : EnvelopeRecord) (outcome : EnvelopeOutcome) (cause : Option CancelCause)
    (path : PathState) : Lane :=
  let l := l.command .envGate false
  let l := l.releasePlace r.tag
  let l : Lane := { l with envelope := { l.envelope with
    record := none, path := path, slotTimer := none, entryFilter := none } }
  (l.giveBack 1).noticeTo (some r.console) r.tag (.envelopeEnd outcome cause none)

/-- A cancelling event reaches the envelope path (R105, R106). -/
def Lane.cancelEnvelope (l : Lane) (code : ReplyCode) (cause : CancelCause) : Lane :=
  match l.envelope.record, l.envelope.path with
  | some r, .staged => l.cancelRecord r code false
  | some r, .claiming => l.cancelRecord r code false
  | some r, .opened => l.closeSlot r .cancelled (some cause) .idle
  | _, _ => l

/-- A latched fault of ENV_GATE or IMPRINT reaches the envelope path (R104). -/
def Lane.faultEnvelope (l : Lane) : Lane :=
  match l.envelope.record, l.envelope.path with
  | some r, .staged => l.cancelRecord r .unavailable true
  | some r, .claiming => l.cancelRecord r .unavailable true
  | some r, .opened => l.closeSlot r .cancelled (some .fault) .fault
  | some r, .capturing =>
    { l with envelope := { l.envelope with record := some { r with faultAtEnd := true } } }
  | none, .idle => { l with envelope := { l.envelope with path := .fault } }
  | _, _ => l

/-- The lane's service state leaves OPEN: the jobs take their lane-close rules, and a STATUS is queued
(R55, R93, R105, R172, R188). -/
def Lane.leaveOpen (l : Lane) : Lane :=
  if l.sup.service == .opened then
    let l := { l with sup := { l.sup with service := .closed } }
    let l := l.dropUndecided .state
    let l := l.cancelEnvelope .state .closed
    l.followLane.queueStatus
  else l

/-- A block raises a closing cause; an OPEN lane becomes CLOSED (R188). -/
def Lane.raise (l : Lane) (f : Causes → Causes) : Lane :=
  ({ l with sup := { l.sup with causes := f l.sup.causes } } : Lane).leaveOpen

/-- A closing cause is withdrawn; the lane stays CLOSED (R188). -/
def Lane.withdrawCause (l : Lane) (f : Causes → Causes) : Lane :=
  { l with sup := { l.sup with causes := f l.sup.causes } }

end Sys2Proof.Machine
end

