-- ==== Sys2Proof/Machine/Runs.lean ====
section
/-! DEFINITION. Runs: the drawer's runs, its answer to a request and its release (R59, R61, R62, R64,
R66). -/

namespace Sys2Proof.Machine

/-- Homing runs, and its steps may deliver notes (R190). -/
def Lane.homes (l : Lane) : Bool := l.sup.service == .starting && l.sup.homing.running

/-- Homing runs and stands at a step (R190). -/
def Lane.homesIn (l : Lane) (st : HomingStep) : Bool := l.homes && l.sup.homing.step == st

/-- Homing stands at a step (R190). -/
def Lane.homingStep (l : Lane) (st : HomingStep) : Lane :=
  { l with sup := { l.sup with homing := { l.sup.homing with step := st } } }

/-- Homing's step 2 is over, and step 3 begins; outside it nothing changes (R73, R190). -/
def Lane.drawerHomed (l : Lane) : Lane := if l.homesIn .drawer then l.homingStep .escrow else l

/-- The driver of a run (R59). -/
def Movement.driver : Movement → Driver
  | .extend => .drawerOut
  | .retract | .close | .homing | .clear => .drawerIn

/-- The drawer driver a run does not use. -/
def Movement.otherDriver : Movement → Driver
  | .extend => .drawerIn
  | .retract | .close | .homing | .clear => .drawerOut

/-- The end of a run (R59). -/
def Movement.end : Movement → DrawerEnd
  | .extend => .out
  | .retract | .close | .homing | .clear => .home

/-- The position during a run (R59). -/
def Movement.position : Movement → DrawerPosition
  | .extend => .extending
  | .retract | .close | .homing | .clear => .retracting

/-- A run starts: its driver on, the travel timer at 4 s, the waits at OUT over (R59, R65 to R68). A
re-drive in progress ends with it. -/
def Lane.startRun (l : Lane) (m : Movement) : Lane :=
  let l := (l.command m.otherDriver false).command m.driver true
  { l with drawer := { l.drawer with
      position := m.position, movement := some m, travel := l.timer Config.travelTime,
      take := none, wait := none, takeFilter := none, placementFilter := none } }

/-- The run in progress has reached its end sensor: driver off, travel timer stopped, position at the end
(R59). -/
def Lane.endRun (l : Lane) (m : Movement) : Lane :=
  let l := l.command m.driver false
  { l with drawer := { l.drawer with
      position := (match m.end with | .home => .home | .out => .out), movement := none, travel := none } }

/-- The answers to a request for the drawer (R61). -/
inductive DrawerAnswer | unavailable | locked | granted | waiting | busy
deriving DecidableEq, Repr

/-- The answer to a present or a receive (R61); a payout's present may wait for a CLOSE run. -/
def Lane.drawerAnswer (l : Lane) (payout : Bool) : DrawerAnswer :=
  if l.drawer.position == .jammed then .unavailable
  else if l.drawerDriverFault then .unavailable
  else if l.locked then .locked
  else if l.drawer.free then .granted
  else if l.drawer.owner.isNone && l.drawer.movement == some .close && payout then .waiting
  else .busy

/-- The requester becomes the owner (R61). -/
def Lane.grant (l : Lane) (o : Owner) : Lane :=
  { l with drawer := { l.drawer with owner := some o, lastOwnerTag := some o.tag, waiting := false } }

/-- A present: the stacker bundle moves into the tray and an EXTEND run starts (R64). -/
def Lane.present (l : Lane) : Lane :=
  let b := l.transport.stacker
  let l : Lane := { l with
    drawer := { l.drawer with
      presented := b.notes, contents := if b.kind == .cash then .cash else .returned }
    transport := { l.transport with stacker := Bundle.empty } }
  l.startRun .extend

/-- A receive: an EXTEND run with contents EMPTY (R68). -/
def Lane.receive (l : Lane) : Lane :=
  ({ l with drawer := { l.drawer with receiving := true } } : Lane).startRun .extend

/-- The owner of a kind releases the drawer (R62). -/
def Lane.releaseDrawer (l : Lane) (k : OwnerKind) : Lane :=
  match l.drawer.owner with
  | some o =>
    if o.kind == k then { l with drawer := { l.drawer with owner := none, receiving := false } } else l
  | none => l

/-- A retract request finds the drawer at rest at OUT with contents CASH or RETURN (R66). -/
def Drawer.retractable (d : Drawer) : Bool :=
  d.position == .out && (d.contents == .cash || d.contents == .returned)

/-- The drawer waits at OUT for the customer's notes (R68). -/
def Drawer.awaiting (d : Drawer) : Bool := d.position == .out && d.receiving

/-- The filter of R63 that the tray reading starts at OUT, and the one it stops. -/
def Lane.startFilters (l : Lane) : Lane :=
  let d := l.drawer
  if d.position == .out then
    { l with drawer := { d with
        takeFilter := if (d.contents == .cash || d.contents == .returned) && !d.tray
          then l.timer Config.takeFilterTime else none
        placementFilter := if d.receiving && d.contents == .empty && d.tray
          then l.timer Config.placementFilterTime else none } }
  else l

end Sys2Proof.Machine
end

