-- ==== Sys2Proof/Machine/IntakeOps.lean ====
section
/-! DEFINITION. IntakeOps: the course of an intake past its admission: feeding, returns, the held escrow,
KEEP and giveback (R78 to R95). -/

namespace Sys2Proof.Machine

/-- The value of the escrow list (R75). -/
def Lane.escrowValue (l : Lane) (i : Intake) : Nat := (i.escrow.map l.noteValue).sum

/-- The escrow count of each index (R95). -/
def Intake.counts (i : Intake) : Eight Nat :=
  Eight.ofFn (fun n => (i.escrow.filter (fun e => e.index == n)).length)

/-- NOTICE INTAKE_END (R95); a result of EMPTY carries zeros. -/
def Lane.intakeEnd (l : Lane) (i : Intake) (r : IntakeResult) : Lane :=
  l.noticeTo (some i.console) i.tag
    (match r with
      | .empty => .intakeEnd .empty (Eight.replicate 0) 0 0 0 0 false
      | .held | .noEscrow | .jammed =>
        .intakeEnd r i.counts (l.escrowValue i) i.returned i.suspect i.uncollected i.trayLeft)

/-- The intake ends: its record is discarded and the slots it did not use are returned (R74, R94). -/
def Lane.endIntake (l : Lane) (i : Intake) : Lane := ({ l with intake := none } : Lane).giveBack i.slots

/-- The escrow timer at its start: suspended in lockdown (R84). -/
def Lane.escrowStart (l : Lane) : EscrowTimer :=
  let ms := l.settings.escrowTimeout * 1000
  if l.locked then .suspended ms else .running (l.clock + ms)

/-- A record of the intake joins under its reservation (R94). -/
def Lane.joinIntake (l : Lane) (i : Intake) (r : Record) : Lane × Intake :=
  let i := { i with slots := i.slots - 1 }
  (({ l with intake := some i } : Lane).joinReserved r, i)

/-- A CAPTURE record, if it counts at least one note (R80, R82, R89). -/
def Lane.captureIntake (l : Lane) (i : Intake) (reason : CaptureReason) (n : Nat) : Lane × Intake :=
  if n = 0 then (l, i) else l.joinIntake i (.capture reason n)

/-- Feeding and any return presentation are over: INTAKE_END, and the intake is HELD or ends (R81,
R82). -/
def Lane.heldOrEnd (l : Lane) (i : Intake) : Lane :=
  let i := { i with presentDeferred := false }
  if i.escrow.isEmpty then (l.intakeEnd i .noEscrow).endIntake i
  else ({ l with intake := some { i with state := .held, timer := l.escrowStart } } : Lane).intakeEnd i .held

/-- The intake asks for the present of its returns, or defers it (R82, R83). -/
def Lane.askReturn (l : Lane) (i : Intake) : Lane :=
  if l.drawer.position == .jammed || l.drawerDriverFault || l.locked then
    { l with intake := some { i with presentDeferred := true } }
  else
    ({ l with intake := some { i with presentDeferred := false, presentMade := true } } : Lane).present

/-- The giveback asks for the drawer, or defers it (R83, R89). -/
def Lane.askGiveback (l : Lane) (i : Intake) : Lane :=
  match l.drawerAnswer false with
  | .granted =>
    ({ (l.grant ⟨.giveback, i.tag⟩) with
      intake := some { i with presentDeferred := false, presentMade := true } } : Lane).present
  | .unavailable | .locked | .waiting | .busy =>
    { l with intake := some { i with presentDeferred := true } }

/-- A deferred present is asked again, when the state allows it (R83). -/
def Lane.retryDeferred (l : Lane) : Lane :=
  match l.intake with
  | none => l
  | some i =>
    if i.presentDeferred && !l.locked && !l.drawerDriverFault then
      if i.state == .returning then l.askReturn i
      else if i.state == .givingBack && l.drawer.free then l.askGiveback i
      else l
    else l

/-- Feeding ends: the suspect notes' record, then the returns or the end of the deposit (R80, R81). -/
def Lane.endFeeding (l : Lane) (i : Intake) (trayLeft : Bool) : Lane :=
  let r := l.captureIntake { i with trayLeft := trayLeft } .suspect i.suspect
  let l := r.1
  let i := r.2
  if l.transport.stacker.notes != 0 || trayLeft then l.askReturn { i with state := .returning }
  else (l.releaseDrawer .intake).heldOrEnd i

/-- The KEPT record: the notes added to each position, and the value added to its first two DEPOSIT
positions (R87, R197). -/
def Lane.keptRecord (l : Lane) (i : Intake) : Record :=
  let deposits := positions.filter (fun p => 0 < i.keptNotes.get p && (l.cass.entry.get p).mode == .deposit)
  .kept i.keptNotes
    (match deposits[0]? with | some p => i.keptValue.get p | none => 0)
    (match deposits[1]? with | some p => i.keptValue.get p | none => 0)

/-- NOTICE ESCROW_END of a giveback (R89, R95). -/
def Lane.givebackEnd (l : Lane) (i : Intake) (o : EscrowOutcome) (counted unaccounted : Nat) : Lane :=
  l.noticeTo (some i.console) i.tag (.escrowEnd o (some i.cause) i.givebackNotes 0 counted unaccounted 0)

/-- What an intake stopped under a blocked transport writes and says: the record that the interrupted step
owes, then INTAKE_END or ESCROW_END with JAMMED (R91). `counted` is what the drawer's count delivered. -/
def Lane.stopReport (l : Lane) (i : Intake) (counted : Nat) : Lane × Intake :=
  let late := { i with uncollected := i.uncollected + counted }
  match i.state with
  | .feeding =>
    let r := l.captureIntake i .suspect i.suspect
    (r.1.intakeEnd r.2 .jammed, r.2)
  | .returning =>
    let r := l.captureIntake late .uncollected counted
    (r.1.intakeEnd r.2 .jammed, r.2)
  | .keeping =>
    let r := if i.keptCount = 0 then (l, i) else l.joinIntake i (l.keptRecord i)
    (r.1.noticeTo (some i.console) i.tag (.escrowEnd .jammed none i.keptCount 0 0 0 i.escrow.length), r.2)
  | .givingBack =>
    let r := l.captureIntake late .uncollected counted
    (r.1.noticeTo (some i.console) i.tag (.escrowEnd .jammed (some i.cause) 0 0 counted 0 0), r.2)
  | .receiving | .held | .jammed | .stopped => (l, i)

/-- The intake is STOPPED under a blocked transport and releases the drawer (R91). -/
def Lane.stopIntake (l : Lane) (i : Intake) (counted : Nat) : Lane :=
  let r := l.stopReport i counted
  let l : Lane := { r.1 with
    intake := some { r.2 with state := .stopped, timer := .stopped, presentDeferred := false } }
  (l.releaseDrawer .intake).releaseDrawer .giveback

/-- The receive has come home (R68, R78). -/
def Lane.received (l : Lane) (i : Intake) : Lane :=
  if l.drawer.contents == .customer then { l with intake := some { i with state := .feeding } }
  else ((l.releaseDrawer .intake).intakeEnd i .empty).endIntake i

/-- The returns or the giveback have been taken (R82, R89). -/
def Lane.intakeTaken (l : Lane) (i : Intake) : Lane :=
  if i.state == .givingBack then
    ((l.releaseDrawer .giveback).givebackEnd i .taken 0 0).endIntake i
  else (l.releaseDrawer .intake).heldOrEnd i

/-- The retract of a presentation is counted; a jam stops the returns of an intake, and leaves a giveback
to end as after any count (R82, R89, R91; log entry 12). -/
def Lane.intakeRetracted (l : Lane) (i : Intake) (jam : Bool) : Lane :=
  let n := l.drawer.counted
  if i.state == .givingBack then
    let r := l.captureIntake { i with uncollected := i.uncollected + n } .uncollected n
    let l := r.1
    let i := r.2
    ((l.releaseDrawer .giveback).givebackEnd i .retracted n 0).endIntake i
  else if jam then
    (l.stopIntake i n).raise (fun c => { c with transportModule := true })
  else
    let r := l.captureIntake { i with uncollected := i.uncollected + n } .uncollected n
    let l := r.1
    let i := r.2
    (l.releaseDrawer .intake).heldOrEnd i

/-- The drawer the intake owns has been cleared; `unaccounted` is the DRAWER_CLEARED record's number
(R90). -/
def Lane.intakeCleared (l : Lane) (i : Intake) (unaccounted : Nat) : Lane :=
  match i.jammedFrom with
  | some .feeding => l.endFeeding { i with state := .feeding, jammedFrom := none } i.trayLeft
  | some .returning => (l.releaseDrawer .intake).heldOrEnd { i with jammedFrom := none }
  | some .givingBack =>
    ((l.releaseDrawer .giveback).givebackEnd i .cleared 0 unaccounted).endIntake i
  | _ => ((l.releaseDrawer .intake).intakeEnd i .empty).endIntake i

/-- Lockdown entry reaches the intake: a drawer waiting at OUT for notes is retracted, and a running escrow
timer is suspended (R78, R84, R92). -/
def Lane.lockIntake (l : Lane) : Lane :=
  match l.intake with
  | none => l
  | some i =>
    match i.state, i.timer with
    | .receiving, _ => if l.drawer.awaiting then l.startRun .retract else l
    | .held, .running t => { l with intake := some { i with timer := .suspended (t - l.clock) } }
    | _, _ => l

/-- A suspended escrow timer runs on when the lockdown state becomes CLEAR (R84). -/
def Lane.resumeEscrow (l : Lane) : Lane :=
  match l.intake with
  | none => l
  | some i =>
    match i.timer with
    | .suspended r => { l with intake := some { i with timer := .running (l.clock + r) } }
    | .stopped | .running _ => l

/-! ### The routing plan (R86) -/

/-- A RECYCLE position may take a FIT note of this value. -/
def Cassette.takesFit (c : Cassette) (value planned : Nat) : Bool :=
  c.mode == .recycle && c.denomination == some value
    && (c.state == .ok || c.state == .low || c.state == .empty) && planned < c.capacity

/-- A DEPOSIT position may take a note. -/
def Cassette.takesDeposit (c : Cassette) (planned : Nat) : Bool :=
  c.mode == .deposit && (c.state == .ok || c.state == .empty) && planned < c.capacity

/-- The position with the smallest planned count, the lower on equal ones. -/
def smallestPlanned (planned : Four Nat) : List Position → Option Position
  | [] => none
  | p :: rest =>
    match smallestPlanned planned rest with
    | none => some p
    | some q => if planned.get p ≤ planned.get q then some p else some q

/-- The destination of one note against the planned counts. -/
def placeNote (t : Four Cassette) (planned : Four Nat) (value : Nat) (fit : Bool) : Option Position :=
  let recycle := if fit then
    smallestPlanned planned (positions.filter (fun p => (t.get p).takesFit value (planned.get p))) else none
  match recycle with
  | some p => some p
  | none => positions.find? (fun p => (t.get p).takesDeposit (planned.get p))

/-- The destinations of the escrow notes, oldest first; none if one has none. -/
def placeNotes (t : Four Cassette) : Four Nat → List (Nat × Bool) → Option (List Position)
  | _, [] => some []
  | planned, (value, fit) :: rest =>
    match placeNote t planned value fit with
    | none => none
    | some p => (placeNotes t (planned.modify p (· + 1)) rest).map (p :: ·)

/-- The routing plan for the whole escrow, using at most two DEPOSIT positions. -/
def Lane.routingPlan (l : Lane) (i : Intake) : Option (List Position) :=
  let t := l.cass.entry
  match placeNotes t (t.map Cassette.count) (i.escrow.map (fun n => (l.noteValue n, n.fit))) with
  | none => none
  | some plan =>
    if (positions.filter (fun p => (t.get p).mode == .deposit && plan.contains p)).length ≤ 2 then some plan
    else none

end Sys2Proof.Machine
end

