-- ==== Sys2Proof/Machine/Mix.lean ====
section
/-! DEFINITION. Mix: the mix unit (chapter 2), which holds nothing between uses and works out every mix
from the cassette table as it stands at the asking. -/

namespace Sys2Proof.Machine

/-- The mix may draw from a cassette in this mode and state (R2, R21). -/
def Cassette.eligible (c : Cassette) : Bool :=
  (c.mode == .dispense || c.mode == .recycle) && (c.state == .ok || c.state == .low || c.state == .full)

/-- The eligible count of a position (R21); a SPREAD search leaves the low mark. -/
def eligibleCount (spread : Bool) (excluded : Option Position) (t : Four Cassette) (i : Position) : Nat :=
  let c := t.get i
  if c.eligible && excluded != some i then (if spread then c.count - c.lowMark else c.count) else 0

/-- A pool: a denomination and the positions that carry it, in split order with their eligible counts
(R22, R27). -/
structure Pool where
  denomination : Nat
  sources : List (Position × Nat)
deriving DecidableEq, Repr

/-- The notes a pool can give (R22). -/
def Pool.available (p : Pool) : Nat := (p.sources.map (·.2)).sum

/-- A source takes its place in split order: most notes first, equal counts in ascending position (R27). -/
def insertSource (s : Position × Nat) : List (Position × Nat) → List (Position × Nat)
  | [] => [s]
  | t :: rest => if t.2 < s.2 then s :: t :: rest else t :: insertSource s rest

/-- A position joins the pool of its denomination; the pools stand in descending denomination (R22). -/
def insertPool (d : Nat) (s : Position × Nat) : List Pool → List Pool
  | [] => [{ denomination := d, sources := [s] }]
  | p :: rest =>
    if p.denomination = d then { p with sources := insertSource s p.sources } :: rest
    else if p.denomination < d then { denomination := d, sources := [s] } :: p :: rest
    else p :: insertPool d s rest

/-- The pools of a search (R22). -/
def pools (eligible : Position → Nat) (t : Four Cassette) : List Pool :=
  positions.foldl
    (fun ps i => match (t.get i).denomination with
      | none => ps
      | some d => if eligible i = 0 then ps else insertPool d (i, eligible i) ps)
    []

/-- The first answer from a number downward. -/
def firstDown {β : Type} (f : Nat → Option β) : Nat → Option β
  | 0 => f 0
  | m + 1 => match f (m + 1) with | some r => some r | none => firstDown f m

/-- The chosen candidate of exactly `n` notes worth `amount`, over pools given as denomination and
availability: the greatest m_1, then the greatest m_2, and so on (R23, R24). -/
def chooseNumbers : List (Nat × Nat) → Nat → Nat → Option (List Nat)
  | [], n, amount => if n = 0 && amount = 0 then some [] else none
  | [(d, a)], n, amount => if n ≤ a && n * d = amount then some [n] else none
  | (d, a) :: q :: rest, n, amount =>
    firstDown (fun m =>
      if m * d ≤ amount then (chooseNumbers (q :: rest) (n - m) (amount - m * d)).map (m :: ·) else none)
      (min a n)

/-- The chosen candidate: the smallest note total from 1 to the bundle limit that has one (R24). -/
def chooseCandidate (ps : List Pool) (amount limit : Nat) : Option (List Nat) :=
  (List.range limit).findSome? (fun n =>
    chooseNumbers (ps.map (fun p => (p.denomination, p.available))) (n + 1) amount)

/-- The split of a pool's notes over its sources (R27). -/
def splitPool : List (Position × Nat) → Nat → List (Position × Nat)
  | [], _ => []
  | (i, e) :: rest, m => if m = 0 then [] else (i, min e m) :: splitPool rest (m - min e m)

/-- The positions of a chosen candidate in pick-list order (R28). -/
def splitPools : List Pool → List Nat → List (Position × Nat)
  | p :: ps, m :: ms => splitPool p.sources m ++ splitPools ps ms
  | _, _ => []

/-- The note total of a mix (R28). -/
def Mix.total (m : Mix) : Nat := (m.picks.map (·.2)).sum

/-- The notes a mix draws from a position (R28). -/
def Mix.from (m : Mix) (i : Position) : Nat := ((m.picks.filter (·.1 == i)).map (·.2)).sum

/-- The value of a mix. -/
def Mix.value (t : Four Cassette) (m : Mix) : Nat :=
  (m.picks.map (fun p => p.2 * ((t.get p.1).denomination.getD 0))).sum

/-- The check on each mix before answering (R28). -/
def mixCheck (t : Four Cassette) (eligible : Position → Nat) (amount limit : Nat) (m : Mix) : Bool :=
  m.value t = amount && m.total ≤ limit && positions.all (fun i => m.from i ≤ eligible i)

/-- One search with the eligible counts of its mode (R21 to R24, R27, R28). -/
def search (t : Four Cassette) (spread : Bool) (excluded : Option Position) (amount limit : Nat)
    (belowMark : Bool) : Option Mix :=
  let eligible := eligibleCount spread excluded t
  let ps := pools eligible t
  match chooseCandidate ps amount limit with
  | none => none
  | some ms =>
    let m : Mix := { picks := splitPools ps ms, belowMark := belowMark }
    if mixCheck t eligible amount limit m then some m else none

/-- The answer of a search: a mix, or NO_MIX (R29). -/
def MixAnswer.ofSearch : Option Mix → MixAnswer
  | some m => .mix m
  | none => .noMix

/-- The first mix of a PAYOUT; SPREAD falls back on the FEWEST counts (R20, R25, R26). -/
def firstMix (t : Four Cassette) (cap amount : Nat) (mode : MixMode) : MixAnswer :=
  if amount = 0 || cap < amount then .range
  else
    match mode with
    | .fewest => .ofSearch (search t false none amount Config.bundleLimit false)
    | .spread =>
      match search t true none amount Config.bundleLimit false with
      | some m => .mix m
      | none => .ofSearch (search t false none amount Config.bundleLimit true)

/-- A remix (R30). -/
def remix (t : Four Cassette) (amount limit : Nat) (excluded : Option Position) : MixAnswer :=
  .ofSearch (search t false excluded amount limit false)

end Sys2Proof.Machine
end

