-- ==== Sys2Proof/Machine/PayoutOps.lean ====
section
/-! DEFINITION. PayoutOps: the course of a payout past its claim: picking, remix, purge, the drawer and
the ends (R39 to R52, R56, R57). -/

namespace Sys2Proof.Machine

/-- The reason of the PURGE record, named after the outcome (R46). -/
def PayoutOutcome.reason : PayoutOutcome → PurgeReason
  | .failedShort => .short
  | .failedRejects => .rejects
  | .failedJam => .jam
  | .recalled => .recalled
  | .locked => .locked
  | .paid | .retracted | .superseded | .exposure | .line => .jam

/-- A payout past PICKING ends: its record joins under the reservation, its claim is released, the NOTICE
goes out, the slots it did not use and the drawer are given back (R45, R46, R48, R50, R52, R56). -/
def Lane.endPayout (l : Lane) (p : Payout) (record : Option Record) (n : Notice) : Lane :=
  let l := match record with | none => l | some r => l.joinReserved r
  let unused := match record with | none => p.slots | some _ => p.slots - 1
  let l := l.sendRelease .cash p.amount p.tag
  let l : Lane := { l with
    payout := none
    ledgers := { l.ledgers with cash := 0 }
    transport := { l.transport with pickList := [], halted := false, lost := none, remix := none } }
  let l := l.noticeTo (some p.console) p.tag n
  (l.giveBack unused).releaseDrawer .payout

/-- A payout ends with its PURGE record and NOTICE PAYOUT_FAILED (R45, R46, R48). -/
def Lane.endPurged (l : Lane) (p : Payout) (o : PayoutOutcome) : Lane :=
  l.endPayout p (some (.purge o.reason p.drawn p.binned)) (.payoutFailed o p.binned)

/-- The purge is complete when the note path and the stacker are empty (R46). -/
def Lane.purgeIfDone (l : Lane) (p : Payout) : Lane :=
  if l.transport.path.isEmpty && l.transport.stacker.notes = 0 then
    l.endPurged p (p.outcome.getD .failedJam)
  else { l with payout := some p }

/-- A payout goes to PURGING with its outcome; a held request for the drawer is withdrawn (R46, R61). -/
def Lane.purge (l : Lane) (p : Payout) (o : PayoutOutcome) : Lane :=
  let l : Lane := { l with
    transport := { l.transport with halted := true, lost := none, remix := none, pickList := [] }
    drawer := { l.drawer with waiting := false } }
  l.purgeIfDone { p with state := .purging, outcome := some o }

/-- The bin refused a note of the payout: it ends, and the lane closes with a purge fault (R48). -/
def Lane.payoutBinRefused (l : Lane) (p : Payout) : Lane :=
  (l.endPurged p (p.outcome.getD .failedRejects)).raise (fun c => { c with purgeModule := true })

/-- A transport jam ends the payout, and the lane closes with a transport fault (R45). -/
def Lane.payoutJammed (l : Lane) (p : Payout) : Lane :=
  (l.endPurged p .failedJam).raise (fun c => { c with transportModule := true })

/-- A payout in BUNDLED asks for the drawer (R49, R61). -/
def Lane.askDrawer (l : Lane) (p : Payout) : Lane :=
  match l.drawerAnswer true with
  | .granted =>
    ({ (l.grant ⟨.payout, p.tag⟩) with payout := some { p with state := .presenting } } : Lane).present
  | .waiting => { l with payout := some p, drawer := { l.drawer with waiting := true } }
  | .busy => { l with payout := some p }
  | .unavailable => l.purge p .failedJam
  | .locked => l.purge p .locked

/-- The pick list of a mix (R39). -/
def Mix.pickList (m : Mix) : List PickEntry := m.picks.map (fun p => { position := p.1, quota := p.2 })

/-- What follows once the note path is empty: a payout with every quota met is BUNDLED, one halted by a
lost position asks for a remix, and a purging one purges its stacker (R40, R43, R46). -/
def Lane.drained (l : Lane) (p : Payout) : Lane :=
  if !l.transport.path.isEmpty then { l with payout := some p }
  else if p.state == .purging then l.purgeIfDone p
  else if p.state == .picking then
    if l.transport.halted then
      if p.stackedValue = p.amount then l.askDrawer { p with state := .bundled }
      else if l.transport.remix.isSome then { l with payout := some p }
      else
        { l with
          payout := some p
          transport := { l.transport with
            remix := some (remix l.cass.entry (p.amount - p.stackedValue)
              (Config.bundleLimit - p.stackedNotes) l.transport.lost) } }
    else if l.transport.pickList.isEmpty then l.askDrawer { p with state := .bundled }
    else { l with payout := some p }
  else { l with payout := some p }

/-- A position of the pick list with quota above 0 whose cassette is not OK, LOW or FULL (R43). -/
def Lane.lostEntry (l : Lane) (e : PickEntry) : Bool :=
  0 < e.quota && !(l.cass.entry.get e.position).eligible

/-- After a change of the cassette table: a position lost from the list halts the picks, and a remix is
asked at once if the note path is empty (R39, R43). -/
def Lane.checkLost (l : Lane) : Lane :=
  match l.payout with
  | none => l
  | some p =>
    if p.state == .picking && !l.transport.halted then
      match l.transport.pickList.find? l.lostEntry with
      | none => l
      | some e =>
        ({ l with transport := { l.transport with halted := true, lost := some e.position } } : Lane).drained p
    else l

/-- Entry to PICKING: the PICK record joins under the reservation and the pick list is built (R39). -/
def Lane.startPicking (l : Lane) (p : Payout) : Lane :=
  let l := l.joinReserved (.pick p.tag p.amount (Four.ofFn p.mix.from))
  let p := { p with state := .picking, slots := p.slots - 1 }
  let l : Lane := { l with
    payout := some p
    transport := { l.transport with
      pickList := p.mix.pickList, pickNumber := 0, halted := false, lost := none, remix := none } }
  l.checkLost

/-- The drawer has begun to retract the payout's cash (R50, R51, R66). -/
def Lane.retractPayout (l : Lane) (p : Payout) : Lane :=
  if l.drawer.retractable then
    ({ l with payout := some { p with state := .retracting } } : Lane).startRun .retract
  else { l with payout := some p }

/-- The drawer is OUT with the payout's cash: PRESENTED, or retracted at once when a recall is pending
(R49, R51). -/
def Lane.payoutOut (l : Lane) (p : Payout) : Lane :=
  let q := { p with state := .presented }
  if p.recallPending then l.retractPayout q
  else
    ({ l with payout := some q } : Lane).noticeTo (some p.console) p.tag (.presented p.stackedNotes p.amount)

/-- The take is decided: the payout ends PAID (R50). -/
def Lane.payoutTaken (l : Lane) (p : Payout) : Lane :=
  l.endPayout p (some (.paid p.tag p.amount p.drawn p.binned)) (.paid p.amount)

/-- The retract is complete: its counted notes are added to binned, and the payout ends RETRACTED
(R50). -/
def Lane.payoutRetracted (l : Lane) (p : Payout) : Lane :=
  let p := { p with binned := p.binned + l.drawer.counted }
  l.endPayout p
    (some (.retract p.tag l.drawer.presented l.drawer.counted p.drawn p.binned))
    (.retracted l.drawer.presented l.drawer.counted)

/-- Lockdown entry reaches the payout (R54). -/
def Lane.lockPayout (l : Lane) : Lane :=
  match l.payout with
  | none => l
  | some p =>
    match p.state with
    | .staged | .claiming => l.endUndecided p .locked
    | .picking | .bundled => l.purge p .locked
    | .presenting =>
      if l.settings.policy == .retract then { l with payout := some { p with recallPending := true } } else l
    | .presented => if l.settings.policy == .retract then l.retractPayout p else l
    | .retracting | .purging | .jammed => l

end Sys2Proof.Machine
end

