-- ==== Sys2Proof/Machine/Reports.lean ====
section
/-! DEFINITION. Reports: what the drawer tells its owner and what follows: arrivals, the take, the count
of a retract, a jam and a clearing (R59, R60, R65, R67 to R73). -/

namespace Sys2Proof.Machine

/-- The payout whose drawer this is. -/
def Lane.owningPayout (l : Lane) : Option Payout :=
  match l.drawer.owner with
  | some ⟨.payout, _⟩ => l.payout
  | _ => none

/-- The intake whose drawer this is, as an intake or a giveback. -/
def Lane.owningIntake (l : Lane) : Option Intake :=
  match l.drawer.owner with
  | some ⟨.intake, _⟩ => l.intake
  | some ⟨.giveback, _⟩ => l.intake
  | _ => none

/-- Once the drawer is free, a BUNDLED payout asks for it again, and so does a deferred present (R61,
R83). -/
def Lane.drawerFreed (l : Lane) : Lane :=
  if l.drawer.free then
    let l := match l.payout with
      | some p => if p.state = PayoutState.bundled then l.askDrawer p else l
      | none => l
    l.retryDeferred
  else l

/-- Arrival at OUT: the timer and the filters of the wait start, and the owner is told OUT (R59, R64,
R68). -/
def Lane.arriveOut (l : Lane) : Lane :=
  let l : Lane :=
    if l.drawer.receiving then
      { l with drawer := { l.drawer with wait := l.timer (l.settings.intakeWait * 1000) } }
    else { l with drawer := { l.drawer with take := l.timer (l.settings.takeTimeout * 1000) } }
  let l := l.startFilters
  match l.owningPayout with
  | some p => l.payoutOut p
  | none => if l.drawer.receiving && l.locked then l.startRun .retract else l

/-- A receive reaches HOME: the tray is read once, and the intake is told received (R68). -/
def Lane.receiveHome (l : Lane) : Lane :=
  let contents := if l.drawer.contents == .empty && l.drawer.tray then Contents.customer else l.drawer.contents
  let l : Lane := { l with drawer := { l.drawer with receiving := false, contents := contents } }
  match l.owningIntake with
  | some i => (l.received i).drawerFreed
  | none => l

/-- A retract with CASH or RETURN reaches HOME: the transport is asked to count the tray (R69). -/
def Lane.startCount (l : Lane) : Lane :=
  { l with drawer := { l.drawer with counted := 0, counting := true } }

/-- A clearing completes (R72). -/
def Lane.clearingDone (l : Lane) : Lane :=
  match l.sup.clearing with
  | none => l
  | some c =>
    let unaccounted := l.drawer.presented - l.drawer.counted
    let tag := match l.drawer.owner with | some o => some o.tag | none => l.drawer.lastOwnerTag
    let l := l.joinReserved (.drawerCleared tag unaccounted)
    let l : Lane := { l with sup := { l.sup with clearing := none } }
    let l : Lane :=
      if c.newSlot then l
      else
        match l.owningPayout, l.owningIntake with
        | some p, _ => { l with payout := some { p with slots := p.slots - 1 } }
        | none, some i => { l with intake := some { i with slots := i.slots - 1 } }
        | none, none => l
    let l : Lane := { l with drawer := { l.drawer with
      contents := .empty, position := .home, movement := none, presented := 0, counted := 0 } }
    let l := match l.owningPayout, l.owningIntake with
      | some p, _ => l.endPayout p none (.payoutFailed .failedJam p.binned)
      | none, some i => l.intakeCleared i unaccounted
      | none, none => l
    let l := l.withdrawCause (fun c =>
      { c with drawer := false, purgeDrawer := false, transportDrawer := false })
    (l.reply c.request kindLane .done).drawerFreed

/-- A run reaches its end (R59). The tray is counted at the end of a HOMING run unless a transport jam has stopped
step 2 of homing (R73, R190). -/
def Lane.arrive (l : Lane) (m : Movement) : Lane :=
  let l := l.endRun m
  match m with
  | .extend => l.arriveOut
  | .retract => if l.drawer.receiving then l.receiveHome else l.startCount
  | .close => ({ l with drawer := { l.drawer with waiting := false } } : Lane).drawerFreed
  | .homing => if l.homesIn .drawer then l.startCount else l
  | .clear => l.clearingDone

/-- The run in progress ends at this sensor; a HOMING run not before step 2 of homing has begun it, and after a
jam that stopped that step as well (R59, R73, R190). -/
def Lane.runEnds (l : Lane) (e : DrawerEnd) : Option Movement :=
  match l.drawer.movement with
  | none => none
  | some m => if m.end == e && (m != .homing || l.homes && !l.homesIn .module) then some m else none

/-- A run that started while its end sensor already reports arrival ends at once (R59). -/
def Lane.settleRun (l : Lane) : Lane :=
  match l.drawer.atEnd with
  | none => l
  | some e =>
    match l.runEnds e with
    | some m => l.arrive m
    | none => l

/-- The owner is told the retract is complete (R69, R70). -/
def Lane.retractDone (l : Lane) (jam : Bool) : Lane :=
  match l.owningPayout, l.owningIntake with
  | some p, _ => l.payoutRetracted p
  | none, some i => l.intakeRetracted i jam
  | none, none => l

/-- The count reaches the tray's end; at homing step 3 follows (R69, R73, R190). -/
def Lane.trayExhausted (l : Lane) : Lane :=
  let l : Lane := { l with drawer := { l.drawer with counting := false, contents := .empty } }
  (l.retractDone false).drawerFreed.drawerHomed

/-- The count stops with notes in the tray: RETAINED, the owner told, and a closing cause raised; at homing
step 3 follows (R70, R73, R190). A transport jam in homing's step 2 before the count stops it the same way (log
entry 6). -/
def Lane.countStopped (l : Lane) (jam : Bool) : Lane :=
  let l : Lane := { l with drawer := { l.drawer with counting := false, contents := .retained } }
  let l := (l.retractDone jam).raise (fun c =>
    if jam then { c with transportDrawer := true } else { c with purgeDrawer := true })
  l.drawerHomed

/-- A run or a re-drive fails: JAMMED, the owner told, a waiting request refused, and the lane closed with
a drawer fault (R60); at homing step 3 follows (R190). A count of the tray that still runs when a re-drive at
HOME fails ends with it, and the notes it has counted reach no owner's binned, uncollected or record (DESIGN
CHOICE, log entry 12: R60 and R69 do not say). -/
def Lane.jamDrawer (l : Lane) : Lane :=
  let l := (l.command .drawerOut false).command .drawerIn false
  let waiting := l.drawer.waiting
  let l : Lane := { l with drawer := { l.drawer with
    position := .jammed, movement := none, travel := none, take := none, wait := none,
    takeFilter := none, placementFilter := none, counting := false, waiting := false } }
  let l : Lane := match l.owningPayout, l.owningIntake with
    | some p, _ => { l with payout := some { p with state := .jammed } }
    | none, some i => { l with intake := some { i with state := .jammed, jammedFrom := some i.state } }
    | none, none => l
  let l := match l.payout with
    | some p => if waiting = true ∧ p.state = PayoutState.bundled then l.purge p .failedJam else l
    | none => l
  (l.raise (fun c => { c with drawer := true })).drawerHomed

/-- A CLEAR run fails: the drawer is JAMMED as before, a new slot is returned, and the LANE is answered
UNAVAILABLE (R72). -/
def Lane.clearingFailed (l : Lane) : Lane :=
  let l := l.command .drawerIn false
  let l : Lane := { l with drawer := { l.drawer with position := .jammed, movement := none, travel := none } }
  match l.sup.clearing with
  | none => l
  | some c =>
    (({ l with sup := { l.sup with clearing := none } } : Lane).giveBack c.newSlot.toNat).reply
      c.request kindLane .unavailable

/-- The take is decided: contents EMPTY, a CLOSE run starts, and the owner is told TAKEN (R65). -/
def Lane.takeDecided (l : Lane) : Lane :=
  let l := ({ l with drawer := { l.drawer with contents := .empty } } : Lane).startRun .close
  match l.owningPayout, l.owningIntake with
  | some p, _ => l.payoutTaken p
  | none, some i => l.intakeTaken i
  | none, none => l

/-- The drawer starts a retract of its own accord and tells its owner (R65, R67). -/
def Lane.retractOwn (l : Lane) : Lane :=
  let l := l.startRun .retract
  match l.owningPayout with
  | some p => { l with payout := some { p with state := .retracting } }
  | none => l

end Sys2Proof.Machine
end

