-- ==== Sys2Proof/Machine/LockOps.lean ====
section
/-! DEFINITION. LockOps: entry into lockdown, its hold timer and the strobe (R136, R147, R150 to R153). -/

namespace Sys2Proof.Machine

/-- A cause of the strobe is raised: it is lit and its minimum on time starts afresh, unless the lane is in
lockdown (R147). -/
def Lane.strobeRaised (l : Lane) : Lane :=
  if l.locked then l
  else
    let l := l.command .strobe true
    { l with drivers := { l.drivers with strobeMinOn := l.timer (l.settings.strobeMinOn * 1000) } }

/-- A cause of the strobe may have gone: with none left and the minimum on timer stopped, it is commanded
off (R147). -/
def Lane.strobeSettle (l : Lane) : Lane :=
  if l.strobeCause || l.drivers.strobeMinOn.isSome then l else l.command .strobe false

/-- The SAFE_DOOR loop, where one has a filtered class of ACTIVE. -/
def Lane.openDoorLoop (l : Lane) : Option LoopNo :=
  eightNumbers.find? (fun n => (l.settings.loop.get n).role == .safeDoor
    && (l.loops.entry.get n).filtered == some .active)

/-- The door alarm cause is raised by the loop `n`: NOTICE ALARM DOOR, and the strobe is driven (R136). -/
def Lane.doorAlarmed (l : Lane) (n : LoopNo) : Lane :=
  (l.noticeBoth (.alarm n .safeDoor .active .door)).strobeRaised

/-- The door alarm cause is raised if it is present at the end of a service (R136). -/
def Lane.raiseDoorAlarm (l : Lane) : Lane :=
  match l.openDoorLoop with
  | some n => if l.envelope.phase = .noService then l.doorAlarmed n else l
  | none => l

/-- The service phase becomes NONE; with the door open, the alarm action is taken (R107, R109, R136). -/
def Lane.endService (l : Lane) : Lane :=
  ({ l with envelope := { l.envelope with phase := .noService } } : Lane).raiseDoorAlarm

/-- A LOCKDOWN record joins, or is held while the start's records have not joined (R152). -/
def Lane.lockdownRecord (l : Lane) (r : Record) : Lane :=
  if l.sup.service = .starting then
    { l with lockdown := { l.lockdown with heldRecords := l.lockdown.heldRecords ++ [r] } }
  else l.joinUnreserved r

/-- The state becomes LOCKED with the hold timer afresh; a change of state queues a STATUS (R149,
R153). -/
def Lane.lockHold (l : Lane) : Lane :=
  let was := l.lockdown.state
  let l : Lane := { l with lockdown := { l.lockdown with
    state := .locked, hold := l.timer (l.settings.lockdownHold * 1000) } }
  if was = .locked then l else l.queueStatus

/-- Entry from CLEAR reaches every block that does customer work (section 9.4): the payout first, then the intake,
then the envelope path, whose frames of one class join the transmit queue in that order (DESIGN CHOICE, log entry
23: section 9.4 gives the blocks no order). -/
def Lane.lockJobs (l : Lane) : Lane :=
  let l := l.lockPayout
  let l := l.lockIntake
  let l := l.cancelEnvelope .locked .locked
  let l := l.command .strobe false
  let l : Lane := { l with drivers := { l.drivers with strobeMinOn := none } }
  l.followLane

/-- A hold-up at this window (R150). -/
def Lane.holdUp (l : Lane) (loop : LoopNo) : Lane :=
  let origin : LoopOrigin := ⟨l.sup.lane, loop⟩
  let l := l.takeOffLine
  let l : Lane := { l with bus := { l.bus with breakTimer := l.timer Config.breakTime } }
  let l := l.send (.lockdown origin) everyStation 0
  let l := l.command .silentRelay true
  let l := l.lockdownRecord (.lockdown (some origin))
  if l.lockdown.state = .clear then l.lockHold.lockJobs else l.lockHold

/-- A heard break or a LOCKDOWN frame heard (R151); a FAILED lane takes neither (R149). -/
def Lane.heardLockdown (l : Lane) (origin : Option LoopOrigin) : Lane :=
  if l.sup.service = .failed then l
  else if l.lockdown.state = .clear then
    (l.lockdownRecord (.lockdown origin)).lockHold.lockJobs
  else l.lockHold

end Sys2Proof.Machine
end

