-- ==== Sys2Proof/Machine/PeerOps.lean ====
section
/-! DEFINITION. PeerOps: how frames and time change the peer table, the silence timer and ISOLATED (R163
to R167, R174). -/

namespace Sys2Proof.Machine

/-- The stale timeout in milliseconds: 4 times the announce period (R164). -/
def Lane.staleTime (l : Lane) : Nat := 4 * l.settings.announce * 1000

/-- The silence timeout in milliseconds: 5 times the announce period (R174). -/
def Lane.silenceTime (l : Lane) : Nat := 5 * l.settings.announce * 1000

/-- A peer entry's listen deadline: twice the stale timeout from now (R165). -/
def Lane.listenDeadline (l : Lane) : Timer := l.timer (2 * l.staleTime)

/-- A peer entry replaced, with the notice its effect on the limits asks for (R169). -/
def Lane.setPeer (l : Lane) (n : LaneNo) (p : Peer) : Lane :=
  Lane.afterViews l { l with ledgers := { l.ledgers with peer := l.ledgers.peer.set n p } }

/-- The refresh that every frame of a peer gives its entry (R163). -/
def Lane.refreshed (l : Lane) (p : Peer) : Peer := { p with heard := true, heardAt := l.clock }

/-- An entry after a frame other than STATUS (R163, R164). -/
def Lane.heardOther (l : Lane) (p : Peer) : Peer :=
  let p := l.refreshed p
  match p.state with
  | .absent =>
    { p with state := .unknown, deadline := if l.setupDone then l.listenDeadline else none }
  | .silent => { p with state := .stale }
  | .self | .unknown | .fresh | .stale => p

/-- A frame other than STATUS is heard from a lane (R163, R164). -/
def Lane.peerFrame (l : Lane) (n : LaneNo) : Lane :=
  if l.isPeer n then l.setPeer n (l.heardOther (l.ledgers.peer.get n)) else l

/-- The amounts a peer entry holds after a CLAIM (R163, R166). -/
def Peer.claim (p : Peer) (q : Quantity) (amount : Nat) : Peer :=
  match q with
  | .cash => { p with cash := min Config.peerCashLimit (p.cash + amount) }
  | .place => { p with places := min Config.peerPlacesLimit (p.places + amount) }

/-- The amounts a peer entry holds after a RELEASE (R166). -/
def Peer.release (p : Peer) (q : Quantity) (amount : Nat) : Peer :=
  match q with
  | .cash => { p with cash := p.cash - amount }
  | .place => { p with places := p.places - amount }

/-- A peer's CLAIM or RELEASE: it changes the amounts of a FRESH entry alone (R166). -/
def Lane.peerAdjust (l : Lane) (n : LaneNo) (f : Peer → Peer) : Lane :=
  if l.isPeer n then
    let p := l.ledgers.peer.get n
    let q := l.heardOther p
    l.setPeer n (if p.state = .fresh then f q else q)
  else l

/-- The service states a STATUS announces (R163). DESIGN CHOICE, log entry 3: STARTING and FAILED are heard as
none. -/
def Service.announced : Service → Option Service
  | .setup => some .setup
  | .closed => some .closed
  | .opened => some .opened
  | .starting | .failed => none

/-- The safe lane repeats its BEGIN while a service is in progress (R106). -/
def ServicePhase.inProgress : ServicePhase → Bool
  | .begun | .doorOpen | .doorClosed => true
  | .noService | .beginning => false

/-- A peer's STATUS sets its entry absolutely; one in SETUP is told of a service in progress (R106,
R167). -/
def Lane.peerStatus (l : Lane) (n : LaneNo) (st : StatusHeard) : Lane :=
  if l.isPeer n then
    let p := l.refreshed (l.ledgers.peer.get n)
    let l := l.setPeer n { p with
      state := .fresh
      cash := min Config.peerCashLimit st.cash
      places := min Config.peerPlacesLimit st.places
      wall := some st.wall
      safe := some st.safe
      lock := st.lock
      service := st.service.bind Service.announced
      deadline := none }
    if st.service = some .setup ∧ l.envelope.phase.inProgress then
      l.send (.serviceBegin false) everyStation 0
    else l
  else l

/-- A good frame of another station: the silence timer starts again, and ISOLATED ends (R174). -/
def Lane.silenceBroken (l : Lane) : Lane :=
  if l.ledgers.isolated || l.ledgers.silence.isSome then
    { l with ledgers := { l.ledgers with isolated := false, silence := l.timer l.silenceTime } }
  else l

/-- The time since a FRESH entry was last heard has reached the stale timeout (R164). -/
def Lane.wentStale (l : Lane) (n : LaneNo) : Lane :=
  let p := l.ledgers.peer.get n
  if p.state = .fresh then l.setPeer n { p with state := .stale } else l

/-- An UNKNOWN entry's listen deadline passes (R164, R165). -/
def Lane.listenPassed (l : Lane) (n : LaneNo) : Lane :=
  let p := l.ledgers.peer.get n
  if p.state = .unknown ∧ p.deadline.isSome then
    l.setPeer n { p with state := if p.heard then .stale else .silent, deadline := none }
  else l

/-- The silence timer expires: the lane is ISOLATED (R174). -/
def Lane.silenceExpired (l : Lane) : Lane :=
  if l.ledgers.silence.isSome then
    { l with ledgers := { l.ledgers with silence := none, isolated := true } }
  else l

/-- The FRESH entries whose lockdown heard is LOCKED or RELEASABLE (R167). -/
def Lane.lanesLocked (l : Lane) : Eight Bool :=
  l.ledgers.peer.map (fun p => p.state == .fresh && (p.lock == some .locked || p.lock == some .releasable))

end Sys2Proof.Machine
end

