-- ==== Sys2Proof/Machine/BusOps.lean ====
section
/-! DEFINITION. BusOps: the attempts of the transmit queue, their ends, and what each end means to the
frame's owner (R36, R37, R100, R101, R106, R107, R109, R110, R177 to R183). -/

namespace Sys2Proof.Machine

/-! ### Safe service at every lane (R106, R110) -/

/-- SAFE_SERVICE BEGIN heard from a station, the lane's own included (R106). One from a console's number is taken as
a lane's, and the flag keeps that number (DEDUCED, log entry 3). -/
def Lane.beginHeard (l : Lane) (from_ : Station) : Lane :=
  ({ l with envelope := { l.envelope with service := some from_ } } : Lane).cancelEnvelope .state .safeService

/-- SAFE_SERVICE END_NO_EMPTY heard (R106, R110). -/
def Lane.endHeard (l : Lane) (from_ : Station) : Lane :=
  if l.envelope.service = some from_ then { l with envelope := { l.envelope with service := none } } else l

/-- EMPTIED heard from a station, the lane's own readback included (R110). A console's frame touches no peer
entry (R163; log entry 3). -/
def Lane.emptiedHeard (l : Lane) (from_ : Station) (epoch : Nat) : Lane :=
  let peer := if (stationLane from_).isSome then l.ledgers.peer.map (fun p => { p with places := 0 })
    else l.ledgers.peer
  let l : Lane := { l with
    ledgers := { l.ledgers with places := 0, peer := peer }
    envelope := { l.envelope with epoch := epoch } }
  let l := l.joinUnreserved (.safeEmptied epoch)
  { l with envelope := { l.envelope with service := none } }

/-! ### Attempts (R177, R178) -/

/-- The lane's station may begin an attempt: not MUTE, no break driven, none on the line, and not in
STARTING or FAILED, in which it sends nothing (R177, R179, R188). -/
def Lane.mayContend (l : Lane) : Bool :=
  !l.muted && l.bus.breakTimer.isNone && l.onLine?.isNone
    && l.sup.service != .starting && l.sup.service != .failed

/-- A CLAIM's first attempt takes its job to CLAIMING (R36, R100). -/
def Lane.claimBegun (l : Lane) (f : TxFrame) : Lane :=
  if f.abandoned then l
  else
    match f.body with
    | .claim .cash _ =>
      match l.payout with
      | some p =>
        if p.state = .staged then { l with payout := some { p with state := .claiming } } else l
      | none => l
    | .claim .place _ =>
      if l.envelope.path = .staged then { l with envelope := { l.envelope with path := .claiming } } else l
    | _ => l

/-- The head of the queue contends; a STATUS is filled in (R172, R177). -/
def Lane.startAttempt (l : Lane) : Lane :=
  match l.bus.queue with
  | [] => l
  | f :: rest =>
    if l.mayContend then
      let body := match f.body with
        | .status _ => .status (some l.statusContent)
        | b => b
      (l.withTx ({ f with body := body, begun := true, onLine := true } :: rest)).claimBegun f
    else l

/-- The frame's owner is told that it was dropped (R178). At a dropped BEGIN with the door open the NOTICE ALARM
of the door is queued before the REPLY LINE (DESIGN CHOICE, log entry 23: R107 gives them no order). -/
def Lane.dropped (l : Lane) (f : TxFrame) : Lane :=
  match f.body with
  | .claim .cash _ =>
    if f.abandoned then l else l.dropUndecided .line
  | .claim .place _ =>
    match l.envelope.record with
    | none => l
    | some r =>
      if r.abandoned then
        { l with envelope := { l.envelope with record := none, path := pathAtEnd r.faultAtEnd } }
      else
        ((({ l with envelope := { l.envelope with record := none, path := .idle } } : Lane).giveBack 1).reply
          ⟨r.console, r.tag⟩ kindSlot .line)
  | .serviceBegin true =>
    match l.settings.supervisor with
    | some c => l.endService.reply ⟨c, f.tag⟩ kindSafeOpen .line
    | none => l.endService
  | .serviceEnd true | .emptied _ =>
    match l.settings.supervisor with
    | some c => l.reply ⟨c, f.tag⟩ kindSafeClose .line
    | none => l
  | _ => l

/-- A frame is queued whose drop on arrival is reported to its owner (R183). -/
def Lane.sendOwned (l : Lane) (body : TxBody) (tag : Tag) : Lane :=
  let r := l.send? body everyStation tag
  if r.2 then r.1.dropped (TxFrame.fresh body everyStation tag) else r.1

/-- One more consecutive dropped frame; the fourth mutes the station (R178, R179). -/
def Lane.countDrop (l : Lane) : Lane :=
  let n := l.bus.drops + 1
  { l with bus := { l.bus with
      drops := n
      mute := if n = Config.dropLimit ∧ l.bus.mute = .no then .drops 0 else l.bus.mute } }

/-- A failed attempt; the eighth drops the frame (R178). -/
def Lane.attemptFailed (l : Lane) : Lane :=
  match l.onLine? with
  | none => l
  | some f =>
    if Config.attemptLimit ≤ f.failed + 1 then (l.removeOnLine.countDrop).dropped f
    else
      l.withTx (l.bus.queue.map (fun g =>
        if g.onLine then { g with failed := g.failed + 1, onLine := false } else g))

/-- A CLASH: MUTE until a reset, with the queue kept and nothing of it on the line (R179, R182). -/
def Lane.clash (l : Lane) : Lane :=
  let l := l.takeOffLine
  { l with bus := { l.bus with mute := .clash } }

/-- The count of good frames of MUTE with cause DROPS (R179). -/
def Lane.countGood (l : Lane) : Lane :=
  match l.bus.mute with
  | .drops n => { l with bus := { l.bus with mute := .drops (min Config.muteGoodFrames (n + 1)) } }
  | .no | .clash => l

/-! ### Readbacks (R178) -/

/-- The frame on the line is read back: it leaves the queue, and the consecutive drops are 0 (R178). -/
def Lane.readBack (l : Lane) : Lane :=
  let l := l.removeOnLine
  { l with bus := { l.bus with drops := 0 } }

/-- The readback of a RELEASE, STATUS, REPLY or NOTICE; a STATUS marked again stays (R178, R183). -/
def Lane.plainReadback (l : Lane) : Lane :=
  match l.onLine? with
  | none => l
  | some f =>
    match f.body with
    | .release _ _ | .reply _ _ _ | .notice _ => l.readBack
    | .status _ =>
      if f.again then
        let l := l.withTx (l.bus.queue.map (fun g =>
          if g.onLine then { g with again := false, failed := 0, onLine := false } else g))
        { l with bus := { l.bus with drops := 0 } }
      else l.readBack
    | .lockdown _ | .claim _ _ | .serviceBegin _ | .serviceEnd _ | .emptied _ => l

/-- The wall's decision on the current payout at its CLAIM's readback (R37, R170). -/
def Lane.decideCash (l : Lane) (p : Payout) : Lane :=
  if l.cashAdmitted p.amount then
    let l : Lane := { l with ledgers := { l.ledgers with cash := p.amount } }
    (l.startPicking p).reply ⟨p.console, p.tag⟩ kindPayout .accepted
      (.payoutAccepted p.mix.total p.mix.belowMark)
  else
    let l := l.sendRelease .cash p.amount p.tag
    (({ l with payout := none } : Lane).giveBack p.slots).reply ⟨p.console, p.tag⟩ kindPayout .exposure

/-- The readback of the own CASH CLAIM (R37, R38). -/
def Lane.cashReadback (l : Lane) : Lane :=
  match l.onLine? with
  | some f =>
    match f.body with
    | .claim .cash amount =>
      let l := l.readBack
      if f.abandoned then l.sendRelease .cash amount f.tag
      else
        match l.payout with
        | some p => if p.undecided then l.decideCash p else l
        | none => l
    | _ => l
  | none => l

/-- The gate opens on an admitted place (R101, R102). The entry filter runs while an envelope lies at the entry
sensor in OPEN, so it starts here where the sensor reports one already (R96). -/
def Lane.openSlot (l : Lane) (r : EnvelopeRecord) : Lane :=
  let l := l.command .envGate true
  let l : Lane := { l with envelope := { l.envelope with
    path := .opened
    slotTimer := l.timer (l.settings.slotTimeout * 1000)
    entryFilter := if l.envelope.entry then l.timer Config.entryFilterTime else none } }
  l.reply ⟨r.console, r.tag⟩ kindSlot .accepted

/-- A place refused at its readback: the RELEASE is queued at once, the reservation returned (R101). -/
def Lane.refuseSlot (l : Lane) (r : EnvelopeRecord) (code : ReplyCode) : Lane :=
  let l := l.releasePlace r.tag
  let l : Lane := { l with envelope := { l.envelope with record := none, path := .idle } }
  (l.giveBack 1).reply ⟨r.console, r.tag⟩ kindSlot code

/-- The readback of the own PLACE CLAIM (R98, R100, R101, R171). -/
def Lane.placeReadback (l : Lane) : Lane :=
  match l.onLine? with
  | some f =>
    match f.body, l.envelope.record with
    | .claim .place _, some r =>
      let l := l.readBack
      let counted : Lane := { l with ledgers := { l.ledgers with places := l.ledgers.places + 1 } }
      if r.abandoned then
        let l := counted.releasePlace r.tag
        { l with envelope := { l.envelope with record := none, path := pathAtEnd r.faultAtEnd } }
      else if l.peerUnknown then counted.refuseSlot r .state
      else if l.placeAdmitted then counted.openSlot r
      else counted.refuseSlot r .safeFull
    | _, _ => l
  | none => l

/-- A REPLY to the supervisor console. -/
def Lane.replySupervisor (l : Lane) (tag : Tag) (kind : Fin 32) (code : ReplyCode) : Lane :=
  match l.settings.supervisor with
  | some c => l.reply ⟨c, tag⟩ kind code
  | none => l

/-- The readback of the own SAFE_SERVICE BEGIN; a repeated one acts by R106 alone (R106, R107). -/
def Lane.beginReadback (l : Lane) : Lane :=
  match l.onLine? with
  | some f =>
    match f.body with
    | .serviceBegin requested =>
      let l := l.readBack.beginHeard (laneStation l.sup.lane)
      if requested then
        let l : Lane := if l.envelope.phase = .beginning then
          { l with envelope := { l.envelope with phase := .begun } } else l
        (l.replySupervisor f.tag kindSafeOpen .accepted).noticeSupervisor f.tag (.safe .begin 0)
      else l
    | _ => l
  | none => l

/-- The readback of the own EMPTIED or END_NO_EMPTY (R106, R109 to R111). With the door open the NOTICE ALARM of
the door is queued before the REPLY DONE and the NOTICE SAFE (DESIGN CHOICE, log entry 23: R109 gives them no
order). -/
def Lane.endReadback (l : Lane) : Lane :=
  match l.onLine? with
  | some f =>
    match f.body with
    | .serviceEnd requested =>
      let l := l.readBack.endHeard (laneStation l.sup.lane)
      if requested then
        (l.endService.replySupervisor f.tag kindSafeClose .done).noticeSupervisor f.tag (.safe .aborted 0)
      else l
    | .emptied epoch =>
      let l := l.readBack.emptiedHeard (laneStation l.sup.lane) epoch
      (l.endService.replySupervisor f.tag kindSafeClose .done).noticeSupervisor f.tag (.safe .emptied epoch)
    | _ => l
  | none => l

/-- A LOCKDOWN frame heard: the own readback, a CLASH, or another lane's frame (R151, R161, R182). -/
def Lane.lockdownFrame (l : Lane) (from_ : Station) (origin : Option LoopOrigin) : Lane :=
  if from_ = laneStation l.sup.lane then
    match l.onLine? with
    | some f =>
      match f.body with
      | .lockdown o => l.readBack.heardLockdown (some o)
      | _ => l.clash
    | none => l.clash
  else l.heardLockdown origin

end Sys2Proof.Machine
end

