-- ==== Sys2Proof/Machine/Operands.lean ====
section
/-! DEFINITION. Operands: who may send what (R184), how a request reaches its owning tests, and how a
command reaches the lane. -/

namespace Sys2Proof.Machine

/-- A command that changes the lane and nothing else. -/
def State.onLane (s : State) (f : Lane → Lane) : Host.Outcome State Fault Refusal :=
  .next { s with lane := f s.lane }

/-- The request decoder takes a request addressed to this lane: none in FAILED (R188), none while 12 frames
of classes 2 and 3 are queued, and none from a lane's number (R184). -/
def Lane.take (l : Lane) (h : Sender) (f : Lane → Lane) : Lane :=
  if l.sup.service = .failed then l
  else if Config.txLowLimit ≤ txLow l.bus.queue then l
  else if isConsole h.source then f l
  else l

/-- A request permitted to one named console alone (R184). -/
def Lane.permit (l : Lane) (h : Sender) (kind : Fin 32) (console : Option Station) (f : Lane → Lane) :
    Lane :=
  if console = some h.source then f l else l.reply h kind .notPermitted

/-- A request of the attending console (R184). -/
def Lane.attending (l : Lane) (h : Sender) (kind : Fin 32) (f : Lane → Lane) : Lane :=
  l.permit h kind l.settings.attending f

/-- A request of the supervisor console (R184). -/
def Lane.supervised (l : Lane) (h : Sender) (kind : Fin 32) (f : Lane → Lane) : Lane :=
  l.permit h kind l.settings.supervisor f

/-- A frame with a good check and a source that is not this lane's arrives: it counts toward the end of MUTE;
from a lane or a console it breaks the silence; from a lane it refreshes the peer entry (R163, R174, R179).
Number 15 is neither a lane nor a console (log entry 3). -/
def Lane.stationHeard (l : Lane) (from_ : Station) : Lane :=
  match stationLane from_ with
  | some n => l.countGood.silenceBroken.peerFrame n
  | none => if isConsole from_ then l.countGood.silenceBroken else l.countGood

/-- A frame heard from a station that is neither this lane nor number 15; this lane's own number is a CLASH,
and a frame of number 15 is discarded with its good check counted (R179, R181, R182). -/
def Lane.heardFrom (l : Lane) (from_ : Station) (f : Lane → Lane) : Lane :=
  if from_.val = 15 then l.stationHeard from_
  else if from_ = laneStation l.sup.lane then l.clash
  else f l

end Sys2Proof.Machine
end

