-- ==== Sys2Proof/Machine/DriverOps.lean ====
section
/-! DEFINITION. DriverOps: the driver bank's diagnostics: which conditions are taken, what a latched fault
does, over-temperature and the closing cause DRIVER (R141 to R145). -/

namespace Sys2Proof.Machine

/-- The set with one condition of the driver stage in it or out of it. -/
def FaultSet.put (s : FaultSet) (c : Condition) (present : Bool) : FaultSet :=
  match c with
  | .openOff => { s with openOff := present }
  | .openOn => { s with openOn := present }
  | .overload => { s with overload := present }
  | .shortSupply => { s with shortSupply := present }

/-- Two sets together. -/
def FaultSet.union (a b : FaultSet) : FaultSet :=
  ⟨a.openOff || b.openOff, a.openOn || b.openOn, a.overload || b.overload,
    a.shortSupply || b.shortSupply, a.hot || b.hot⟩

/-- The kinds two sets share. -/
def FaultSet.inter (a b : FaultSet) : FaultSet :=
  ⟨a.openOff && b.openOff, a.openOn && b.openOn, a.overload && b.overload,
    a.shortSupply && b.shortSupply, a.hot && b.hot⟩

/-- The conditions of the driver stage that are taken in the output's present state (R142). -/
def DriverEntry.takes (e : DriverEntry) : FaultSet :=
  if e.output then { FaultSet.none with openOn := true, overload := true }
  else { FaultSet.none with openOff := e.diagnostics, shortSupply := true }

/-- The lane holds the closing cause DRIVER (R143). -/
def Lane.driverCause (l : Lane) : Bool :=
  l.latchedFault .shutter || l.drivers.entry.toList.any (fun e => e.latched.hot)

/-- The closing cause DRIVER is raised or withdrawn as the latched sets ask (R143). -/
def Lane.followDriverCause (l : Lane) : Lane :=
  if l.driverCause then
    if l.sup.causes.driver then l else l.raise (fun c => { c with driver := true })
  else l.withdrawCause (fun c => { c with driver := false })

/-- How many kinds a set holds. -/
def FaultSet.size (s : FaultSet) : Nat :=
  s.openOff.toNat + s.openOn.toNat + s.overload.toNat + s.shortSupply.toNat + s.hot.toNat

/-- One notice to both consoles for each of several kinds (R143). -/
def Lane.noticeTimes (l : Lane) (n : Notice) : Nat → Lane
  | 0 => l
  | k + 1 => (l.noticeTimes n k).noticeBoth n

/-- The entry of a driver whose live set, and with it the latched set, some kinds have entered (R142). -/
def DriverEntry.entered (e : DriverEntry) (kinds : FaultSet) : DriverEntry :=
  { e with live := e.live.union kinds, latched := e.latched.union kinds }

/-- Some of the kinds would be newly latched by the driver (R143). -/
def Lane.newlyLatches (l : Lane) (d : Driver) (kinds : FaultSet) : Bool :=
  ((l.driver d).entered kinds).latched != (l.driver d).latched

/-- Kinds enter a driver's live set, and with it the latched set: each newly latched kind is noticed once,
before the output follows (R142, R143). Kinds that enter together are noticed with the sets that hold them
all. -/
def Lane.latch (l : Lane) (d : Driver) (kinds : FaultSet) : Lane :=
  let e := l.driver d
  let e' := e.entered kinds
  let n := e'.latched.size - e.latched.size
  let l := (l.withDriver d e').noticeTimes (.driverFault d e'.latched e'.live) n
  l.withDriver d (DriverEntry.switched l.clock e.output e')

/-- What newly latched faults do by their drivers' roles: the envelope path acts on one of ENV_GATE or
IMPRINT, and then the closing cause DRIVER follows (R104, R143; log entry 13). -/
def Lane.latchActs (l : Lane) (envelope : Bool) : Lane :=
  (if envelope then l.faultEnvelope else l).followDriverCause

/-- A driver whose latched fault is reported to the envelope controller (R104). -/
def ofEnvelope (d : Driver) : Bool := d == .envGate || d == .imprint

/-- Kinds enter a driver's live set, and what is newly latched acts (R142, R143). -/
def Lane.enterLive (l : Lane) (d : Driver) (kinds : FaultSet) : Lane :=
  if l.newlyLatches d kinds then (l.latch d kinds).latchActs (ofEnvelope d) else l.latch d kinds

/-- The driver stage reports a condition (R142). -/
def Lane.stageReport (l : Lane) (d : Driver) (c : Condition) (appears : Bool) : Lane :=
  let e := l.driver d
  let e := { e with stage := e.stage.put c appears }
  let one := FaultSet.none.put c true
  if appears then
    let l := l.withDriver d e
    if e.blanking.isNone && e.takes.inter one = one then l.enterLive d one else l
  else l.withDriver d { e with live := e.live.put c false }

/-- The blanking of a driver runs out: the conditions of its state then present enter (R142). -/
def Lane.blankingOver (l : Lane) (d : Driver) : Lane :=
  let e := l.driver d
  if e.blanking.isSome then
    (l.withDriver d { e with blanking := none }).enterLive d (e.takes.inter e.stage)
  else l

/-- The kind HOT alone. -/
def FaultSet.onlyHot : FaultSet := { FaultSet.none with hot := true }

/-- HOT enters a driver's live and latched sets (R145). -/
def Lane.heat (l : Lane) (d : Driver) : Lane := l.latch d FaultSet.onlyHot

/-- A hot report: HOT enters every live and latched set, and every output is off, before any newly latched
fault acts; the envelope path then acts on ENV_GATE and IMPRINT at once, before the lane closes on DRIVER
(R104, R145; the order DEDUCED, log entry 13). -/
def Lane.hotReport (l : Lane) : Lane :=
  if l.drivers.hot then l
  else
    let h : Lane := { l with drivers := { l.drivers with hot := true } }
    (Sys2Proof.drivers.foldl Lane.heat h).latchActs
      (Sys2Proof.drivers.any (fun d => ofEnvelope d && h.newlyLatches d FaultSet.onlyHot))

/-- A normal report: HOT leaves every live set (R145). -/
def Lane.normalReport (l : Lane) : Lane :=
  { l with drivers := { l.drivers with
      hot := false
      entry := l.drivers.entry.map (fun e => { e with live := { e.live with hot := false } }) } }

/-- A driver's latched set keeps only the kinds still live, and the output follows (R144). -/
def DriverEntry.clearLatched (clock : Nat) (e : DriverEntry) : DriverEntry :=
  DriverEntry.switched clock e.output { e with latched := e.latched.inter e.live }

/-- What DRIVERS reports (R144). -/
def Lane.driverReport (l : Lane) : ReplyBody :=
  .drivers
    (l.drivers.entry.map (fun e =>
      { commanded := e.commanded, output := e.output, diagnostics := e.diagnostics, live := e.live,
        latched := e.latched }))
    l.drivers.hot

/-- The driver fails the off-state check: its output is off, its blanking is over, and its live set then
holds SHORT_SUPPLY, or OPEN_OFF with diagnostics enabled (R146). -/
def DriverEntry.failsCheck (e : DriverEntry) : Bool :=
  !e.output && (e.live.shortSupply || (e.live.openOff && e.diagnostics))

/-- The off-state check of one driver: it waits out a blanking still running, and the conditions found are
latched (R146). -/
def Lane.checkDriver (l : Lane) (d : Driver) : Lane :=
  let e := l.driver d
  if e.output then l
  else (l.withDriver d { e with blanking := none }).enterLive d (e.takes.inter e.stage)

/-- The off-state check of every driver, after which the failing ones are recorded (R146). -/
def Lane.offStateCheck (l : Lane) : Lane :=
  let l := Sys2Proof.drivers.foldl Lane.checkDriver l
  { l with sup := { l.sup with driverTest := l.drivers.entry.map DriverEntry.failsCheck } }

/-- The off-state check passed (R146). -/
def Lane.driverTestPassed (l : Lane) : Bool := !(l.sup.driverTest.toList.any id)

/-- The converter reference reads 124 to 132 (R146). -/
def converterOk (code : Byte) : Bool := 124 ≤ code.toNat && code.toNat ≤ 132

end Sys2Proof.Machine
end

