-- ==== Sys2Proof/Machine/HomingOps.lean ====
section
/-! DEFINITION. HomingOps: the steps of start-up homing in their order, what each delivers and how each ends
(R73, R98, R190, R191; log entry 6). -/

namespace Sys2Proof.Machine

/-! ### The envelope found in the mechanism (R97, R98) -/

/-- The serial after this one (R97). -/
def nextSerial (serial : Nat) : Nat := if serial = 65535 then 1 else serial + 1

/-- The run that carries a found envelope to the drop starts: gate closed, the next capture number issued, the
imprinter driven, 5 s for the drop sensor (R98). -/
def Lane.carryEnvelope (l : Lane) : Lane :=
  let l := (l.command .envGate false).command .imprint true
  { l with envelope := { l.envelope with
      serial := nextSerial l.envelope.serial, dropTimer := l.timer Config.dropTime } }

/-- The run that carries a found envelope ends: the ENVELOPE record is made, own places held rises by 1, and
the path is FAULT if the drop was not reported (R98, R190). DESIGN CHOICE, log entry 6: where the drop is reported
while the path is FAULT already, by an ENV_GATE or IMPRINT fault latched in STARTING, it stays FAULT. R98 says that
the path comes up IDLE, R104 that FAULT is left by a passing TEST or a reset alone. -/
def Lane.carryEnds (l : Lane) (reported : Bool) : Lane :=
  let l := l.command .imprint false
  { l with
    sup := { l.sup with homing := { l.sup.homing with envelope := some l.envelope.serial } }
    envelope := { l.envelope with
      dropTimer := none, held := !reported, path := if reported then l.envelope.path else .fault }
    ledgers := { l.ledgers with places := l.ledgers.places + 1 } }

/-- A drop report outside a capture and outside homing: the envelope has left the mechanism, and nothing else
changes (R103). -/
def Lane.dropSeen (l : Lane) (reported : Bool) : Lane :=
  if reported then { l with envelope := { l.envelope with held := false } } else l

/-! ### The steps (R190) -/

/-- Step 4 begins: an envelope the mechanism holds is carried to the drop (R98). -/
def Lane.envelopeStep (l : Lane) : Lane :=
  let l := l.homingStep .envelope
  if l.envelope.held then l.carryEnvelope else l

/-- Step 2 begins: the drawer makes its HOMING run (R73). -/
def Lane.drawerStep (l : Lane) : Lane := ((l.homingStep .drawer).startRun .homing).settleRun

/-- A report of step 2 or of the end of homing comes while step 1 is taken to run: step 1 is over (log entry
6). -/
def Lane.moduleOver (l : Lane) : Lane := if l.homesIn .module then l.drawerStep else l

/-- Step 1 stops with notes in the stacker: a CASH bundle whose count and value are not known (R191, log entry
7). -/
def Lane.strandStacker (l : Lane) : Lane :=
  { l with
    transport := { l.transport with stacker :=
      { kind := .cash, notes := Config.strandedNotes l.free, value := Config.strandedValue l.free } }
    free := l.free + 1 }

/-- Step 1 stops. A refused note of the stacker stays in it; after any other stop whether notes are left there
is a free value (R191, log entry 7). Step 2 follows. -/
def Lane.moduleStopped (l : Lane) (fromStacker : Bool) : Lane :=
  let l := if fromStacker then l.strandStacker
    else if Config.stackerHolds l.free then l.strandStacker
    else { l with free := l.free + 1 }
  l.drawerStep

/-- A transport jam in step 1, 2 or 3 stops that step, raises TRANSPORT, and homing goes on (R190). In step 2 the
drawer's HOMING run goes on to its end (R59) and its tray is not counted: what lies there is RETAINED, and the
cause is the drawer's (R70, R188; DEDUCED, log entry 6). -/
def Lane.homingJam (l : Lane) : Lane :=
  let jammed := l.raise (fun c => { c with transportModule := true })
  match l.sup.homing.step with
  | .module => jammed.moduleStopped false
  | .drawer => l.countStopped true
  | .escrow => jammed.envelopeStep
  | .envelope => l

/-- The count of a homing step rises by the note delivered (R190). -/
def Lane.homingCount (l : Lane) (f : Homing → Homing) : Lane :=
  { l with sup := { l.sup with homing := f l.sup.homing } }

/-- Step 1 offers a note of the note path or the stacker to the bin; a refusal stops the step and raises PURGE
(R18, R190). -/
def Lane.moduleDelivery (l : Lane) (fromStacker : Bool) : Lane :=
  match l.binAccept with
  | some l' => l'.homingCount (fun h => { h with moduleNotes := h.moduleNotes + 1 })
  | none => (l.raise (fun c => { c with purgeModule := true })).moduleStopped fromStacker

/-- Step 3 offers a note of the escrow pocket to the bin; a refusal stops the step and raises PURGE (R18,
R190). -/
def Lane.escrowDelivery (l : Lane) : Lane :=
  match l.binAccept with
  | some l' => l'.homingCount (fun h => { h with escrowNotes := h.escrowNotes + 1 })
  | none => (l.raise (fun c => { c with purgeModule := true })).envelopeStep

/-- A note of the note path, the stacker or the escrow pocket is offered in the step it belongs to (R190). -/
def Lane.homingDelivery (l : Lane) (source : NoteSource) : Lane :=
  match source with
  | .notePath => if l.homesIn .module then l.moduleDelivery false else l
  | .stacker => if l.homesIn .module then l.moduleDelivery true else l
  | .escrow => if l.homesIn .escrow then l.escrowDelivery else l
  | .tray => l

/-- The drop is reported, or its 5 s run out, in step 4, or in step 3, which is then over. An envelope found
whose run was not started is carried by this one report (log entry 6); a second report changes nothing
more. -/
def Lane.homingDrop (l : Lane) (reported : Bool) : Lane :=
  let l := if l.homesIn .escrow then l.envelopeStep else l
  if l.sup.homing.envelope.isSome then l.dropSeen reported
  else if l.envelope.dropTimer.isSome then l.carryEnds reported
  else l.carryEnvelope.carryEnds reported

/-! ### HOMING_COMPLETE ends what has not reported (log entry 6) -/

/-- Steps 1 and 2 are over: a HOMING run or count that has not reported its end is taken as home with an empty
tray. -/
def Lane.homeDrawer (l : Lane) : Lane :=
  let l := l.moduleOver
  let l := if l.drawer.movement = some .homing then l.endRun .homing else l
  { l with drawer := { l.drawer with counting := false } }

/-- Step 4 is over: an envelope still held is taken as dropped. -/
def Lane.homeEnvelope (l : Lane) : Lane :=
  if l.sup.homing.envelope.isSome then l
  else if l.envelope.dropTimer.isSome then l.carryEnds true
  else if l.envelope.held then l.carryEnvelope.carryEnds true
  else l

/-- What an idle lane does: homing goes on from step 1 to step 2 and from step 3 to step 4, since nothing
waits to be reported of them (DESIGN CHOICE, log entries 1 and 6); otherwise the caller lets time pass. -/
def Lane.homingGoesOn (l : Lane) : Option Lane :=
  if l.homesIn .module then some l.drawerStep
  else if l.homesIn .escrow then some l.envelopeStep
  else none

end Sys2Proof.Machine
end

