-- ==== Sys2Proof/Machine/Layout.lean ====
section
/-! DEFINITION. Layout: where each field of a frame, a journal slot and a page header sits (R175, R196,
R197), and the check computed over them (R118, R175).

A list of bits is in the order the bits cross the line or are stored: most significant first. -/

namespace Sys2Proof.Machine

/-! ### Fields and the check -/

/-- The `w` bits of a field, most significant first (R196). A value is given in the low `w` bits. -/
def fieldBits : Nat → Nat → List Bool
  | 0, _ => []
  | w + 1, v => v.testBit w :: fieldBits w v

/-- The number a list of bits spells. -/
def bitsNat (bits : List Bool) : Nat := bits.foldl (fun acc b => acc * 2 + b.toNat) 0

/-- The fields of a payload, one after another with no gap (R196). -/
def packFields (fields : List (Nat × Nat)) : List Bool := fields.flatMap (fun f => fieldBits f.1 f.2)

/-- The bits, made up to a length with one value. -/
def padBits (bits : List Bool) (n : Nat) (fill : Bool) : List Bool :=
  bits ++ List.replicate (n - bits.length) fill

/-- One bit into the check: generator x^16+x^12+x^5+1 (R118, R175). -/
def checkStep (c : BitVec 16) (b : Bool) : BitVec 16 :=
  if c.msb != b then (c <<< 1) ^^^ 0x1021#16 else c <<< 1

/-- The check over a list of bits: initial value all ones, no final inversion (R118, R175). -/
def check (bits : List Bool) : BitVec 16 := bits.foldl checkStep 0xFFFF#16

/-- Bytes as bits. -/
def bytesBits (bytes : List Byte) : List Bool := bytes.flatMap (fun b => fieldBits 8 b.toNat)

/-! ### Codes: the place of a value in the list its owning rule gives (R196) -/

def CassMode.code : CassMode → Nat
  | .dispense => 0 | .recycle => 1 | .deposit => 2 | .unused => 3
def CassState.code : CassState → Nat
  | .ok => 0 | .low => 1 | .empty => 2 | .full => 3 | .fault => 4 | .suspect => 5 | .out => 6 | .unused => 7
def FaultCause.code : FaultCause → Nat
  | .miss => 0 | .rejects => 1 | .jam => 2 | .removed => 3
/-- R7 lists FULL, NEAR_FULL, OK. -/
def BinState.code : BinState → Nat
  | .full => 0 | .nearFull => 1 | .ok => 2
def serviceCode : Service → Nat
  | .starting => 0 | .setup => 1 | .closed => 2 | .opened => 3 | .failed => 4
def lockCode : LockState → Nat
  | .clear => 0 | .locked => 1 | .releasable => 2
def ResetCause.code : ResetCause → Nat
  | .power => 0 | .line => 1 | .restart => 2
def PurgeReason.code : PurgeReason → Nat
  | .short => 0 | .rejects => 1 | .jam => 2 | .recalled => 3 | .locked => 4 | .start => 5
def CaptureReason.code : CaptureReason → Nat
  | .suspect => 0 | .uncollected => 1 | .start => 2
def JournalState.code : JournalState → Nat
  | .ready => 0 | .low => 1 | .full => 2 | .fault => 3 | .absent => 4
def LoopRole.code : LoopRole → Nat
  | .holdup => 0 | .safeDoor => 1 | .cassetteDoor => 2 | .vibration => 3 | .enclosure => 4 | .spare => 5
def LoopClass.code : LoopClass → Nat
  | .normal => 0 | .active => 1 | .short => 2 | .cut => 3
def FilterTime.code : FilterTime → Nat
  | .ms20 => 0 | .ms50 => 1 | .ms200 => 2 | .ms500 => 3
def ReplyCode.code : ReplyCode → Nat
  | .accepted => 0 | .done => 1 | .busy => 2 | .state => 3 | .noMix => 4 | .exposure => 5 | .safeFull => 6
  | .unavailable => 7 | .journal => 8 | .locked => 9 | .line => 10 | .range => 11 | .malformed => 12
  | .notPermitted => 13 | .superseded => 14
/-- R126 lists BEYOND_END, VOID, CHECK_BAD, GOOD. -/
def ReadStatus.code : ReadStatus → Nat
  | .beyondEnd => 0 | .void => 1 | .checkBad => 2 | .good => 3
def IntakeResult.code : IntakeResult → Nat
  | .empty => 0 | .held => 1 | .noEscrow => 2 | .jammed => 3
def EscrowOutcome.code : EscrowOutcome → Nat
  | .kept => 0 | .taken => 1 | .retracted => 2 | .cleared => 3 | .jammed => 4
def GivebackCause.code : GivebackCause → Nat
  | .request => 0 | .timeout => 1
def EnvelopeOutcome.code : EnvelopeOutcome → Nat
  | .captured => 0 | .unconfirmed => 1 | .noEnvelope => 2 | .cancelled => 3
def CancelCause.code : CancelCause → Nat
  | .locked => 0 | .closed => 1 | .safeService => 2 | .fault => 3
def AlarmCause.code : AlarmCause → Nat
  | .door => 0 | .cassetteDoor => 1 | .attack => 2 | .enclosure => 3
def SafeEvent.code : SafeEvent → Nat
  | .begin => 0 | .emptied => 1 | .aborted => 2
def JournalEvent.code : JournalEvent → Nat
  | .low => 0 | .full => 1 | .fault => 2
def quantityCode : Quantity → Nat
  | .cash => 0 | .place => 1
/-- The outcomes a NOTICE PAYOUT_FAILED carries; the others end no payout with that notice. -/
def PayoutOutcome.failCode : PayoutOutcome → Nat
  | .failedShort => 0 | .failedRejects => 1 | .failedJam => 2 | .recalled => 3 | .locked => 4
  | .paid | .retracted | .superseded | .exposure | .line => 255
/-- A yes-or-no or enabled-or-disabled setting: its place in the list, yes and enabled first (R192,
R131, R141; log entry 10). -/
def yesCode (b : Bool) : Nat := if b then 0 else 1
/-- A fault set: a bit each for OPEN_OFF, OPEN_ON, OVERLOAD, SHORT_SUPPLY and HOT, in that order. -/
def FaultSet.code (s : FaultSet) : Nat :=
  bitsNat [s.openOff, s.openOn, s.overload, s.shortSupply, s.hot]
/-- A set of lanes, bit n for lane n. -/
def lanesCode (lanes : Eight Bool) : Nat :=
  bitsNat [lanes.e7, lanes.e6, lanes.e5, lanes.e4, lanes.e3, lanes.e2, lanes.e1, lanes.e0]
/-- A field of `w` bits that may be absent: all ones when it is (R196). -/
def optional (w : Nat) (v : Option Nat) : Nat × Nat := (w, v.getD (2 ^ w - 1))

/-! ### Journal records (R196, R197) -/

/-- The kind code of a record. -/
def Record.kindCode : Record → Nat
  | .start _ _ => 1 | .pick _ _ _ => 2 | .paid _ _ _ _ => 3 | .retract _ _ _ _ _ => 4 | .purge _ _ _ => 5
  | .kept _ _ _ => 6 | .capture _ _ => 7 | .envelope _ _ => 8 | .lockdown _ => 9 | .resume => 10
  | .safeEmptied _ => 11 | .restock _ _ _ => 12 | .drawerCleared _ _ => 13

/-- Six bits for each position. -/
def perPosition (t : Four Nat) : List (Nat × Nat) := t.toList.map (fun n => (6, n))

/-- The payload fields of a record, in the order and width of the table. The queue loss of a START is 1 where a loss
was possible, although R128 lists `possible` first and R196 counts a value's place from 0 (DESIGN CHOICE, log entry
10). -/
def Record.fields : Record → List (Nat × Nat)
  | .start cause loss => [(2, cause.code), (1, loss.toNat)]
  | .pick tag amount planned => [(8, tag.val), (19, amount)] ++ perPosition planned
  | .paid tag amount drawn binned => [(8, tag.val), (19, amount)] ++ perPosition drawn ++ [(4, binned)]
  | .retract tag presented retracted drawn binned =>
    [(8, tag.val), (6, presented), (6, retracted)] ++ perPosition drawn ++ [(6, binned)]
  | .purge reason drawn binned => [(3, reason.code)] ++ perPosition drawn ++ [(7, binned)]
  | .kept added v1 v2 => perPosition added ++ [(16, v1), (16, v2)]
  | .capture reason notes => [(2, reason.code), (7, notes)]
  | .envelope serial confirmed => [(16, serial), (1, (!confirmed).toNat)]
  | .lockdown none => [(1, 1), (3, 7), (3, 7)]
  | .lockdown (some o) => [(1, 0), (3, o.lane.val), (3, o.loop.val)]
  | .resume => []
  | .safeEmptied epoch => [(16, epoch)]
  | .restock target denomination count =>
    [(3, (target.map Fin.val).getD 4), (10, denomination.getD 0), (12, count)]
  | .drawerCleared none unaccounted => [(1, 0), (8, 255), (7, unaccounted)]
  | .drawerCleared (some tag) unaccounted => [(1, 1), (8, tag.val), (7, unaccounted)]

/-- The payload of a record: 56 bits, the unused low bits left at 1 (R197). -/
def Record.payload (r : Record) : List Bool := padBits (packFields r.fields) 56 true

/-- Bytes 0 to 13 of a record slot: kind code, lane, a reserved bit left at 1, sequence number, wall
seconds, payload. DESIGN CHOICE, log entry 14: a sequence number past 65,535 goes in as its low 16 bits. -/
def recordBits (lane : LaneNo) (sequence : Nat) (seconds : BitVec 32) (r : Record) : List Bool :=
  fieldBits 4 r.kindCode ++ fieldBits 3 lane.val ++ [true] ++ fieldBits 16 sequence
    ++ fieldBits 32 seconds.toNat ++ r.payload

/-- The record check: over the page index, the slot number and bytes 0 to 13 (R118, R196). -/
def recordCheck (page slot : Nat) (bits : List Bool) : BitVec 16 :=
  check (fieldBits 16 page ++ fieldBits 8 slot ++ bits)

/-- The sixteen bytes of a record for a slot's address. -/
def encodeRecord (page slot : Nat) (lane : LaneNo) (sequence : Nat) (seconds : BitVec 32) (r : Record) :
    SlotBits :=
  let bits := recordBits lane sequence seconds r
  BitVec.ofNat 128 (bitsNat bits * 65536 + (recordCheck page slot bits).toNat)

/-- The bits of a slot. -/
def slotBitList (v : SlotBits) : List Bool := fieldBits 128 v.toNat

/-- The check of a slot matches over its own address. -/
def recordCheckOk (page slot : Nat) (v : SlotBits) : Bool :=
  (recordCheck page slot ((slotBitList v).take 112)).toNat == v.toNat % 65536

/-- The next field of a payload, and the bits after it. -/
def takeField (w : Nat) (bits : List Bool) : Nat × List Bool := (bitsNat (bits.take w), bits.drop w)

/-- Four fields of six bits, and the bits after them. -/
def takePerPosition (bits : List Bool) : Four Nat × List Bool :=
  let (a, bits) := takeField 6 bits
  let (b, bits) := takeField 6 bits
  let (c, bits) := takeField 6 bits
  let (d, bits) := takeField 6 bits
  (⟨a, b, c, d⟩, bits)

/-- A value of a field, where the bound of its owning rule holds. -/
def inRange {α : Type} (ok : Bool) (x : α) : Option α := if ok then some x else none

/-- The largest amount of a payout: the largest lane cap (R192). -/
def amountInRange (n : Nat) : Bool := 1 ≤ n && n ≤ 500000

/-- The notes of a mix or of a KEEP: at least 1 and at most 40 in all (R20, R75, R91). -/
def bundleTotal (t : Four Nat) : Bool := 1 ≤ t.toList.sum && t.toList.sum ≤ 40

/-- Every number of the four is at most the bound. -/
def allAtMost (t : Four Nat) (n : Nat) : Bool := t.toList.all (· ≤ n)

/-- The record a kind code and a payload spell; none where the kind code is 0 or above 13 or a field is
outside the range of its owning rule: among them a RESTOCK of the bin with a denomination, one without a
denomination with a count above 0 (R13), a PURGE START that draws notes or bins none, a CAPTURE of none, a PICK or
a KEPT of none or of more than 40, and a KEPT value above 40,000, which is 40 notes of 1,000 (R9, R20, R75, R91,
R94, R190, R197; log entry 15). DESIGN CHOICE, log entry 15: a field is out of range for its own value alone, or
for a combination that this reader tests; every other combination that no rule writes is read as good, among them
a START of POWER or LINE with queue loss not possible (R128), a KEPT whose second value is not 0 with one position
added (R197), and an absent lane and loop of a LOCKDOWN or an absent tag of a DRAWER_CLEARED that is not all ones
(R196). -/
def decodePayload (kind : Nat) (bits : List Bool) : Option Record :=
  match kind with
  | 1 =>
    let (cause, bits) := takeField 2 bits
    let loss := bitsNat (bits.take 1) == 1
    match cause with
    | 0 => some (.start .power loss)
    | 1 => some (.start .line loss)
    | 2 => some (.start .restart loss)
    | _ => none
  | 2 =>
    let (tag, bits) := takeField 8 bits
    let (amount, bits) := takeField 19 bits
    let (planned, _) := takePerPosition bits
    inRange (amountInRange amount && bundleTotal planned) (.pick (Fin.ofNat 256 tag) amount planned)
  | 3 =>
    let (tag, bits) := takeField 8 bits
    let (amount, bits) := takeField 19 bits
    let (drawn, bits) := takePerPosition bits
    let (binned, _) := takeField 4 bits
    inRange (amountInRange amount && binned ≤ 8) (.paid (Fin.ofNat 256 tag) amount drawn binned)
  | 4 =>
    let (tag, bits) := takeField 8 bits
    let (presented, bits) := takeField 6 bits
    let (retracted, bits) := takeField 6 bits
    let (drawn, bits) := takePerPosition bits
    let (binned, _) := takeField 6 bits
    inRange (presented ≤ 40 && retracted ≤ presented && binned ≤ 48)
      (.retract (Fin.ofNat 256 tag) presented retracted drawn binned)
  | 5 =>
    let (reason, bits) := takeField 3 bits
    let (drawn, bits) := takePerPosition bits
    let (binned, _) := takeField 7 bits
    match reason with
    | 0 => inRange (binned ≤ 90) (.purge .short drawn binned)
    | 1 => inRange (binned ≤ 90) (.purge .rejects drawn binned)
    | 2 => inRange (binned ≤ 90) (.purge .jam drawn binned)
    | 3 => inRange (binned ≤ 90) (.purge .recalled drawn binned)
    | 4 => inRange (binned ≤ 90) (.purge .locked drawn binned)
    | 5 => inRange (allAtMost drawn 0 && 1 ≤ binned) (.purge .start drawn binned)
    | _ => none
  | 6 =>
    let (added, bits) := takePerPosition bits
    let (v1, bits) := takeField 16 bits
    let (v2, _) := takeField 16 bits
    inRange (bundleTotal added && v1 ≤ 40000 && v2 ≤ 40000) (.kept added v1 v2)
  | 7 =>
    let (reason, bits) := takeField 2 bits
    let (notes, _) := takeField 7 bits
    match reason with
    | 0 => inRange (1 ≤ notes && notes ≤ 100) (.capture .suspect notes)
    | 1 => inRange (1 ≤ notes && notes ≤ 100) (.capture .uncollected notes)
    | 2 => inRange (1 ≤ notes && notes ≤ 100) (.capture .start notes)
    | _ => none
  | 8 =>
    let (serial, bits) := takeField 16 bits
    inRange (1 ≤ serial) (.envelope serial (bitsNat (bits.take 1) == 0))
  | 9 =>
    let (unknown, bits) := takeField 1 bits
    let (lane, bits) := takeField 3 bits
    let (loop, _) := takeField 3 bits
    some (.lockdown (if unknown = 1 then none else some ⟨Fin.ofNat 8 lane, Fin.ofNat 8 loop⟩))
  | 10 => some .resume
  | 11 =>
    let (epoch, _) := takeField 16 bits
    inRange (1 ≤ epoch) (.safeEmptied epoch)
  | 12 =>
    let (target, bits) := takeField 3 bits
    let (denomination, bits) := takeField 10 bits
    let (count, _) := takeField 12 bits
    inRange (target ≤ 4 && denomination ≤ 1000 && count ≤ 2500
        && (target != 4 || denomination == 0) && (denomination != 0 || count == 0))
      (.restock (if target = 4 then none else some (Fin.ofNat 4 target))
        (if denomination = 0 then none else some denomination) count)
  | 13 =>
    let (present, bits) := takeField 1 bits
    let (tag, bits) := takeField 8 bits
    let (unaccounted, _) := takeField 7 bits
    inRange (unaccounted ≤ 40)
      (.drawerCleared (if present = 1 then some (Fin.ofNat 256 tag) else none) unaccounted)
  | _ => none

/-- The sequence number of a slot's record (R196). -/
def slotSequence (v : SlotBits) : Nat := v.toNat / 2 ^ 104 % 65536

/-- The record of a slot, where every field is in range; a sequence number is 1 to 61,440 (R117, R197). -/
def decodeRecord (v : SlotBits) : Option Record :=
  if 1 ≤ slotSequence v && slotSequence v ≤ 61440 then
    decodePayload (v.toNat / 2 ^ 124) (((slotBitList v).drop 56).take 56)
  else none

/-! ### Page headers (R114, R196) -/

/-- The header pattern that programs a state, a page sequence, a redirect and a sealBits check; a field left
unprogrammed is all ones. DESIGN CHOICE, log entry 14: a page sequence past 65,535 goes in as its low 16
bits. -/
def headerPattern (state sequence redirect sealBits : Nat) : SlotBits :=
  BitVec.ofNat 128
    (bitsNat (padBits (packFields [(8, state), (16, sequence), (16, redirect), (16, sealBits)]) 128 true))

/-- OPEN with its page sequence (R115). -/
def headerOpen (sequence : Nat) : SlotBits := headerPattern 0x3F sequence 0xFFFF 0xFFFF
/-- SEALED with its sealBits check (R120). -/
def headerSealed (sealBits : BitVec 16) : SlotBits := headerPattern 0x0F 0xFFFF 0xFFFF sealBits.toNat
/-- RETIRED with its redirect, or none (R119). -/
def headerRetired (redirect : Option Nat) : SlotBits :=
  headerPattern 0x03 0xFFFF (redirect.getD 0xFFFF) 0xFFFF

/-- Byte 0 of a header: its state. -/
def headerState (h : SlotBits) : Nat := h.toNat / 2 ^ 120
/-- Bytes 1 and 2: its page sequence. -/
def headerSequence (h : SlotBits) : Nat := h.toNat / 2 ^ 104 % 65536
/-- Bytes 3 and 4: its redirect. -/
def headerRedirect (h : SlotBits) : Nat := h.toNat / 2 ^ 88 % 65536
/-- Bytes 5 and 6: its sealBits check. -/
def headerSeal (h : SlotBits) : Nat := h.toNat / 2 ^ 72 % 65536

/-- Record slots 1 to 15 of a page. -/
def recordSlots : List Nat := [1, 2, 3, 4, 5, 6, 7, 8, 9, 10, 11, 12, 13, 14, 15]

/-- The sealBits check: over the 240 bytes of record slots 1 to 15 as they read (R120). -/
def sealCheck (m : List Host.Cell) (page : Nat) : BitVec 16 :=
  check (recordSlots.flatMap (fun s => slotBitList (Memory.readSlot m page s)))

/-! ### Frames (R175, R196) -/

/-- The fixed payload length of a kind, for the 28 codes that name one (R196). -/
def kindLength (kind : Fin 32) : Option Nat :=
  match kind.val with
  | 0 => some 2
  | 1 | 2 => some 4
  | 3 => some 1
  | 4 => some 2
  | 5 => some 4
  | 7 => some 1
  | 11 => some 1
  | 12 => some 5
  | 13 => some 2
  | 14 | 15 => some 1
  | 19 => some 2
  | 22 => some 2
  | 23 => some 6
  | 25 | 26 => some 24
  | 27 => some 16
  | 28 | 29 | 30 | 31 => none
  | _ => some 0

/-- The kinds that are requests: class 2 other than REPLY and NOTICE (R176). -/
def isRequestKind (kind : Fin 32) : Bool := 5 ≤ kind.val && kind.val ≤ 24

/-- The bits of a frame from the class to the end of the payload. -/
def frameBits (cls source kind dest tag : Nat) (payload : List Byte) : List Bool :=
  packFields [(2, cls), (4, source), (5, kind), (4, dest), (8, tag), (5, payload.length)]
    ++ bytesBits payload

/-- The check of a received frame matches, over the bits as they crossed the line. -/
def WireFrame.checkOk (f : WireFrame) : Bool :=
  check (packFields [(2, f.cls.val), (4, f.source.val), (5, f.kind.val), (4, f.dest.val), (8, f.tag.val),
    (5, f.length.val)] ++ bytesBits f.payload) == f.check

/-- A frame with the check its sender computes. -/
def WireFrame.sent (cls : Fin 4) (source : Station) (kind : Fin 32) (dest : Station) (tag : Tag)
    (payload : List Byte) : WireFrame where
  cls := cls
  source := source
  kind := kind
  dest := dest
  tag := tag
  length := Fin.ofNat 32 payload.length
  payload := payload
  check := check (frameBits cls.val source.val kind.val dest.val tag.val payload)

/-- The band of a time in the present class (R196). -/
def timeBand (seconds : Nat) : Nat :=
  if seconds < 10 then 0 else if seconds < 60 then 1 else if seconds < 600 then 2
  else if seconds < 3600 then 3 else if seconds < 36000 then 4 else if seconds < 65535 then 5 else 6

/-- The fields of a LOOPS row: 21 bits. An activity latch that is set is sent as 1, though R131 lists `set` first
and R196 counts a value's place from 0: it is taken as a flag, not as a code (DESIGN CHOICE, log entry 10). -/
def LoopReport.fields (r : LoopReport) : List (Nat × Nat) :=
  [(3, r.role.code), (1, yesCode r.supervised), (2, r.filter.code),
   (3, (r.filtered.map LoopClass.code).getD 4), (1, r.latch.toNat), (8, r.level.toNat),
   (3, if r.filtered.isNone then 7 else timeBand r.seconds)]

/-- The fields of a DRIVERS row: two bytes. A commanded state or an output that is on is sent as 1, though R141
lists `on` first and R196 counts a value's place from 0: they are taken as flags, not as codes (DESIGN CHOICE,
log entry 10). -/
def DriverReport.fields (r : DriverReport) : List (Nat × Nat) :=
  [(1, r.commanded.toNat), (1, r.output.toNat), (1, yesCode r.diagnostics), (5, r.live.code),
   (5, r.latched.code), (3, 0)]

/-- The fields of a REPLY body (R196). -/
def ReplyBody.fields : ReplyBody → List (Nat × Nat)
  | .empty => []
  | .payoutAccepted total belowMark => [(8, total), (8, belowMark.toNat)]
  | .lanesLocked lanes => [(8, lanesCode lanes)]
  | .remainingHold seconds => [(16, seconds)]
  | .checkNumber n => [(8, n)]
  | .cassette c =>
    [(8, c.mode.code), (16, c.denomination.getD 0), (16, c.count), optional 32 c.value, (16, c.capacity),
     (16, c.lowMark), (8, c.state.code), (8, c.badRun), optional 8 (c.cause.map FaultCause.code),
     optional 16 c.lastRestock]
  | .bin count capacity state => [(16, count), (16, capacity), (8, state.code)]
  | .denominations d => d.toList.map (fun v => (16, v.getD 0))
  | .journal status state free spares highest slot =>
    [(2, status.code), (3, state.code), (3, 0), (16, free), (8, spares), (16, highest), (128, slot.toNat)]
  | .loops rows hits converterFault powerLost =>
    rows.toList.flatMap LoopReport.fields ++ [(4, hits), (1, converterFault.toNat), (1, powerLost.toNat)]
  | .drivers rows hot => rows.toList.flatMap DriverReport.fields ++ [(8, hot.toNat)]
  | .conditions set => [(16, set.toNat)]

/-- The kind of a notice, in the order of R186. -/
def Notice.kindCode : Notice → Nat
  | .presented .. => 0 | .paid _ => 1 | .retracted .. => 2 | .payoutFailed _ _ => 3
  | .intakeEnd .. => 4 | .escrowEnd .. => 5 | .envelopeEnd .. => 6 | .loopChange .. => 7
  | .loopTrouble .. => 8 | .alarm .. => 9 | .driverFault .. => 10 | .cassetteChange .. => 11
  | .safe .. => 12 | .journal .. => 13 | .mismatch .. => 14 | .testResult .. => 15

/-- The fields of a NOTICE body (R196). Each fault set of DRIVER_FAULT, to which the table gives no width, is a byte
with its five bits in the low places, OPEN_OFF bit 4 to HOT bit 0 (DESIGN CHOICE, log entry 10). -/
def Notice.fields : Notice → List (Nat × Nat)
  | .presented notes amount => [(8, notes), (24, amount)]
  | .paid amount => [(24, amount)]
  | .retracted shown back => [(8, shown), (8, back)]
  | .payoutFailed outcome binned => [(8, outcome.failCode), (8, binned)]
  | .intakeEnd result counts value returned suspect uncollected trayLeft =>
    [(8, result.code)] ++ counts.toList.map (fun n => (8, n))
      ++ [(16, value), (8, returned), (8, suspect), (8, uncollected), (8, yesCode trayLeft)]
  | .escrowEnd outcome cause notes value counted unaccounted inEscrow =>
    [(8, outcome.code), optional 8 (cause.map GivebackCause.code), (8, notes), (16, value), (8, counted),
     (8, unaccounted), (8, inEscrow)]
  | .envelopeEnd outcome cause capture =>
    [(8, outcome.code), optional 8 (cause.map CancelCause.code), optional 8 (capture.map (·.1.val)),
     optional 16 (capture.map (·.2))]
  | .loopChange loop role left entered => [(8, loop.val), (8, role.code), (8, left.code), (8, entered.code)]
  | .loopTrouble loop role cls => [(8, loop.val), (8, role.code), (8, cls.code)]
  | .alarm loop role cls cause => [(8, loop.val), (8, role.code), (8, cls.code), (8, cause.code)]
  | .driverFault driver latched live => [(8, driver.index.val), (8, latched.code), (8, live.code)]
  | .cassetteChange target (.inl state) cause count =>
    [(8, (target.map Fin.val).getD 4), (8, state.code), optional 8 (cause.map FaultCause.code), (16, count)]
  | .cassetteChange target (.inr state) cause count =>
    [(8, (target.map Fin.val).getD 4), (8, state.code), optional 8 (cause.map FaultCause.code), (16, count)]
  | .safe event emptying => [(8, event.code), (16, emptying)]
  | .journal event free => [(8, event.code), (16, free)]
  | .mismatch wall cap wallEff capEff lanes =>
    [(24, wall), (16, cap), (24, wallEff), (16, capEff), (8, lanesCode lanes)]
  | .testResult lastStep pass => [(8, lastStep), (8, (!pass).toNat)]

/-- The kind code of a frame the lane sends (R196). -/
def TxBody.kind : TxBody → Fin 32
  | .lockdown _ => 0
  | .claim _ _ => 1
  | .release _ _ => 2
  | .serviceBegin _ | .serviceEnd _ => 3
  | .emptied _ => 4
  | .reply _ _ _ => 25
  | .notice _ => 26
  | .status _ => 27

/-- The payload fields of a frame the lane sends (R196); a STATUS not yet filled in has none. -/
def TxBody.fields : TxBody → List (Nat × Nat)
  | .lockdown o => [(8, o.lane.val), (8, o.loop.val)]
  | .claim q amount | .release q amount => [(8, quantityCode q), (24, amount)]
  | .serviceBegin _ => [(8, 0)]
  | .serviceEnd _ => [(8, 1)]
  | .emptied epoch => [(16, epoch)]
  | .reply kind code body => [(8, kind.val), (8, code.code)] ++ body.fields
  | .notice n => [(8, n.kindCode)] ++ n.fields
  | .status none => []
  | .status (some c) =>
    [(8, serviceCode c.service), (8, lockCode c.lock), (24, c.cash), (16, c.places), (24, c.wall),
     (16, c.safe), (16, c.conditions.toNat), (16, c.free)]

/-- Eight bits as a byte, for as many bytes as asked. -/
def bitsBytes : Nat → List Bool → List Byte
  | 0, _ => []
  | n + 1, bits => BitVec.ofNat 8 (bitsNat (bits.take 8)) :: bitsBytes n (bits.drop 8)

/-- The payload of a frame the lane sends: its fields, unused bytes 0, at the kind's fixed length. -/
def TxBody.payload (b : TxBody) : List Byte :=
  let n := (kindLength b.kind).getD 0
  bitsBytes n (padBits (packFields b.fields) (8 * n) false)

/-- A frame of the transmit queue as it crosses the line from this lane (R175). -/
def TxFrame.wire (lane : LaneNo) (f : TxFrame) : WireFrame :=
  WireFrame.sent (Fin.ofNat 4 f.cls) (laneStation lane) f.body.kind f.dest f.tag f.body.payload

end Sys2Proof.Machine
end

