-- ==== Sys2Proof/Machine/Scan.lean ====
section
/-! DEFINITION. Scan: the journal in logical order (R114, R115, R126, R127), as the start-up scan, the
rescan of TEST and every JOURNAL read walk it. -/

namespace Sys2Proof.Machine

/-- A used record slot on the walk: where it lies, its status and what it reads. -/
structure ScanEntry where
  page : Nat
  slot : Nat
  status : ReadStatus
  value : SlotBits
deriving DecidableEq, Repr

/-- What a page header reads as (R114, R127). -/
inductive HeaderKind
  | fresh | skipped | opened | sealedPage
  | retired (spare : Option Nat)
  /-- None of the states: taken as RETIRED with redirect none, its slots CHECK_BAD (R127). -/
  | unreadable
deriving DecidableEq, Repr

/-- A spare page (R114). -/
def isSpare (p : Nat) : Bool := Config.primaryPages ≤ p && p < Config.allPages

/-- The kind of a header; a redirect outside the spares is none (R127). DESIGN CHOICE, log entry 14: a header
whose state byte is 0xFF but which is not all ones is unreadable, and not FRESH (R114, R196). -/
def headerKind (h : SlotBits) : HeaderKind :=
  if h = BitVec.allOnes 128 then .fresh
  else if h = 0#128 then .skipped
  else if headerState h = 0x3F then .opened
  else if headerState h = 0x0F then .sealedPage
  else if headerState h = 0x03 then
    .retired (if isSpare (headerRedirect h) then some (headerRedirect h) else none)
  else .unreadable

/-- A slot reads all ones: unused (R114). -/
def slotUnused (m : List Host.Cell) (page slot : Nat) : Bool :=
  Memory.readSlot m page slot == BitVec.allOnes 128

/-- The slot of a page before its first unused one, where the header is OPEN; every used slot otherwise
(R114). -/
def usedSlots (m : List Host.Cell) (page : Nat) (opened : Bool) : List Nat :=
  if opened then recordSlots.takeWhile (fun s => !slotUnused m page s)
  else recordSlots.filter (fun s => !slotUnused m page s)

/-- The status of a used slot (R126): `bad` when the page's header is unreadable or its page sequence
fails, `sealOk` when the page is not SEALED or its seal check matches. -/
def slotStatus (m : List Host.Cell) (page slot : Nat) (bad sealOk : Bool) : ReadStatus :=
  let v := Memory.readSlot m page slot
  if bad then .checkBad
  else if v = 0#128 then .void
  else if sealOk && recordCheckOk page slot v then .good
  else .checkBad

/-- The used slots of a page with their statuses. -/
def pageEntries (m : List Host.Cell) (page : Nat) (opened bad sealOk : Bool) : List ScanEntry :=
  (usedSlots m page opened).map (fun s =>
    { page := page, slot := s, status := slotStatus m page s bad sealOk, value := Memory.readSlot m page s })

/-- What the walk finds: the used slots in logical order, the page at its end if one is open, the next
primary page to be opened, the FRESH spare the order has reached if it ends before one, the last page
sequences, and the cells with the pages the walk sealed. -/
structure Walk where
  cells : List Host.Cell
  entries : List ScanEntry
  writePage : Option Nat
  nextSlot : Nat
  nextPrimary : Nat
  orderSpare : Option Nat
  lastSequence : Nat
  /-- The page sequence of the last page before the open one that has one. -/
  priorSequence : Nat
deriving DecidableEq, Repr

/-- The walk ends with no page open. DESIGN CHOICE, log entry 14: the primary pages from `nextPrimary` on are
not yet opened, whatever their headers read (R121). -/
def Walk.stop (m : List Host.Cell) (entries : List ScanEntry) (nextPrimary : Nat) (orderSpare : Option Nat)
    (lastSequence : Nat) : Walk :=
  { cells := m, entries := entries, writePage := none, nextSlot := 1, nextPrimary := nextPrimary,
    orderSpare := orderSpare, lastSequence := lastSequence, priorSequence := lastSequence }

/-- The seal of a full OPEN page whose page sequence is `sequence`, with its read-back: a header that a
cleared bit keeps from verifying is turned to RETIRED with redirect none. A programming that is repeated
clears no further bit, so the attempts of R118 leave what the first leaves (R120, R127; log entry 14). -/
def sealPage (m : List Host.Cell) (page sequence : Nat) : List Host.Cell :=
  let pattern := headerSealed (sealCheck m page)
  let m' := Memory.program m page 0 pattern
  if Memory.readSlot m' page 0 = headerOpen sequence &&& pattern then m'
  else Memory.program m' page 0 (headerRetired none)

/-- The journal is walked from a page (R114, R115, R127): `primary` is the primary page that began the
run, `last` the page sequence of the last page before that has one. `seals` says whether an OPEN page
whose slots are all used is sealed on the way, as a scan does and a JOURNAL read does not. The first
number bounds the pages visited. DESIGN CHOICE, log entry 14: redirects that lead back to a page already visited,
to which R114 and R127 give no end, are followed round, the slots of each page listed at each visit, until 4,096
pages have been visited; the walk then stops with no page open, before the primary page after the one that began
the run. DESIGN CHOICE, log entry 14: a full OPEN page is sealed whatever its void count, as R127 says, one with two
or more voided or damaged slots too, which R120 would have retired and not sealed. -/
def walkFrom (seals : Bool) : Nat → List Host.Cell → List ScanEntry → Nat → Nat → Nat → Walk
  | 0, m, acc, _, primary, last => Walk.stop m acc (primary + 1) none last
  | fuel + 1, m, acc, page, primary, last =>
    let onward := fun (m : List Host.Cell) (acc : List ScanEntry) (last : Nat) =>
      if primary + 1 < Config.primaryPages then
        walkFrom seals fuel m acc (primary + 1) (primary + 1) last
      else Walk.stop m acc Config.primaryPages none last
    let h := Memory.readSlot m page 0
    let sequence := headerSequence h
    let bad := sequence != last + 1
    match headerKind h with
    | .fresh =>
      if page = primary then Walk.stop m acc primary none last
      else Walk.stop m acc (primary + 1) (some page) last
    | .skipped => onward m acc last
    | .opened =>
      let acc := acc ++ pageEntries m page true bad true
      let used := (usedSlots m page true).length
      if used < 15 then
        { cells := m, entries := acc, writePage := some page, nextSlot := used + 1,
          nextPrimary := primary + 1, orderSpare := none, lastSequence := sequence, priorSequence := last }
      else
        onward (if seals then sealPage m page sequence else m) acc sequence
    | .sealedPage =>
      onward m (acc ++ pageEntries m page false bad (headerSeal h == (sealCheck m page).toNat)) sequence
    | .retired none => onward m (acc ++ pageEntries m page false bad true) sequence
    | .retired (some spare) =>
      walkFrom seals fuel m (acc ++ pageEntries m page false bad true) spare primary sequence
    | .unreadable =>
      onward m (acc ++ pageEntries m page false true true) (if sequence = 65535 then last else sequence)

/-- The journal in logical order from primary page 0. -/
def walk (seals : Bool) (m : List Host.Cell) : Walk := walkFrom seals Config.allPages m [] 0 0 0

/-- The spare pages in ascending order (R114). -/
def sparePageList : List Nat := (List.range Config.sparePages).map (Config.primaryPages + ·)

/-- The spare pages whose headers are not FRESH (R127): not all ones (log entry 14). -/
def spareHeadersUsed (m : List Host.Cell) : List Nat := sparePageList.filter (fun p => !slotUnused m p 0)

/-- The void count of the write page: its voided and damaged slots (R127). -/
def Walk.voids (w : Walk) : Nat :=
  (w.entries.filter (fun e => w.writePage = some e.page && e.status != .good)).length

/-- The largest sequence number in a GOOD slot, or 0 (R127). DESIGN CHOICE, log entry 14: one above 61,440, out
of the range of R117, counts too. -/
def Walk.highest (w : Walk) : Nat :=
  w.entries.foldl (fun n e => if e.status = .good then max n (slotSequence e.value) else n) 0

/-- The last written record the walk found, if it is GOOD (R130). DESIGN CHOICE, log entry 14: it is the last
used slot that is not VOID, so a damaged slot after a GOOD one leaves none. -/
def Walk.lastWritten (w : Walk) : Option ScanEntry :=
  match (w.entries.filter (fun e => e.status != .void)).getLast? with
  | some e => if e.status = .good then some e else none
  | none => none

/-- The page map as a scan sets it (R127); reserved slots, queue and JOURNAL_LOST are the caller's. -/
def Journal.mapped (j : Journal) (w : Walk) : Journal :=
  { j with
    cells := w.cells
    op := none
    writePage := w.writePage
    nextSlot := w.nextSlot
    voids := w.voids
    nextPrimary := w.nextPrimary
    lastPageSequence := w.lastSequence
    priorPageSequence := w.priorSequence
    spares := spareHeadersUsed w.cells
    orderSpare := w.orderSpare
    highest := w.highest }

/-- The page map of a scan that could not read the cartridge: no write position, no free slot (R127). -/
def Journal.unmapped (j : Journal) (st : JournalState) : Journal :=
  { j with op := none, writePage := none, nextSlot := 1, voids := 0,
           nextPrimary := Config.primaryPages, orderSpare := none, state := st }

end Sys2Proof.Machine
end

