-- ==== Sys2Proof/Machine/JournalOps.lean ====
section
/-! DEFINITION. JournalOps: the journal line: a record's way to its slot, voiding, retiring and sealing,
one line operation at a time (R115 to R120, R124, R125). -/

namespace Sys2Proof.Machine

/-- The journal with the operation that now waits for its answer. -/
def Lane.lineOp (l : Lane) (op : Option LineOp) : Lane := { l with journal := { l.journal with op := op } }

/-- The page and slot an operation acts on. -/
def Journal.target (j : Journal) (op : LineOp) : Nat × Nat :=
  let page := j.writePage.getD 0
  match op with
  | .readSlot | .programSlot _ | .verifySlot _ | .voidSlot => (page, j.nextSlot)
  | .programOpen p _ _ | .verifyOpen p _ _ | .skipPage p _ => (p, 0)
  | .programRetire _ _ | .verifyRetire _ _ | .dropRetired | .programSeal _ | .verifySeal _ | .unseal =>
    (page, 0)
  | .sealRead s => (page, s)

/-- The bits of the record at the head for the write position (R117, R118). -/
def Lane.headBits (l : Lane) : SlotBits :=
  match l.journal.queue with
  | [] => BitVec.allOnes 128
  | q :: _ =>
    encodeRecord (l.journal.writePage.getD 0) l.journal.nextSlot l.sup.lane
      (l.journal.headSequence.getD 0) q.seconds q.record

/-- The pattern an operation programs; none for a read (R115, R118 to R120). -/
def Lane.opPattern (l : Lane) (op : LineOp) : Option SlotBits :=
  let j := l.journal
  match op with
  | .readSlot | .verifySlot _ | .verifyOpen _ _ _ | .verifyRetire _ _ | .sealRead _ | .verifySeal _ => none
  | .programSlot _ => some l.headBits
  | .voidSlot | .skipPage _ _ | .dropRetired => some 0#128
  | .programOpen _ _ _ => some (headerOpen (j.lastPageSequence + 1))
  | .programRetire spare _ => some (headerRetired spare)
  | .programSeal _ => some (headerSealed (sealCheck j.cells (j.writePage.getD 0)))
  | .unseal => some (headerRetired none)

/-- The cells after an operation is answered: a programming clears the bits of its pattern, and either kind
leaves no bit set that the cartridge shows as clear (R114, log entry 14). -/
def Lane.opCells (l : Lane) (op : LineOp) (seen : Option SlotBits) : List Host.Cell :=
  let at_ := l.journal.target op
  match seen, l.opPattern op with
  | some v, _ => Memory.program l.journal.cells at_.1 at_.2 v
  | none, some p => Memory.program l.journal.cells at_.1 at_.2 p
  | none, none => l.journal.cells

/-- A programming that is cut short leaves some of its bits unprogrammed: a free value says which (R114,
log entry 9). -/
def Lane.interruptLine (l : Lane) : Lane :=
  match l.journal.op with
  | none => l
  | some op =>
    let l' := l.lineOp none
    match l.opPattern op with
    | none => l'
    | some p =>
      let at_ := l.journal.target op
      { l' with
        journal := { l'.journal with
          cells := Memory.program l.journal.cells at_.1 at_.2 (p ||| Config.interruptedBits l.free) }
        free := l.free + 1 }

/-! ### The way of a record (R116, R118) -/

/-- The head of the queue is dropped, with JOURNAL_LOST (R116, R125). -/
def Lane.dropHead (l : Lane) : Lane :=
  { l with journal := { l.journal with
      queue := l.journal.queue.drop 1, headSequence := none, op := none, lost := true } }

/-- The head cannot be given a slot (R116). -/
def Lane.headBarred (l : Lane) (q : QueuedRecord) : Bool :=
  l.journal.free = 0 || (!q.reserved && l.journal.free ≤ l.journal.reserved)

/-- The lowest-numbered spare page not used, if one remains (R119). -/
def Journal.nextSpare (j : Journal) : Option Nat := sparePageList.find? (fun p => !j.spares.contains p)

/-- Retirement begins: the lowest unused spare is opened, or none is left (R119). -/
def Lane.retire (l : Lane) : Lane :=
  match l.journal.nextSpare with
  | some p => l.lineOp (some (.programOpen p true 1))
  | none => l.lineOp (some (.programRetire none 1))

/-- The page the logical order has reached and that is not yet opened: a spare that a redirect names, or the
next primary page (R114, R115). Where the header of such a spare does not verify, the page opened in its place is
the next primary one, as after a skipped page, and not the next spare, which R119 tries while it retires a page
(DESIGN CHOICE, log entry 14). -/
def Journal.orderPage (j : Journal) : Nat := j.orderSpare.getD j.nextPrimary

/-- A page is opened or skipped: a spare is then used, and a primary page is passed (R115, R119, R121). -/
def Journal.passed (j : Journal) (page : Nat) : Journal :=
  if isSpare page then { j with spares := j.spares ++ [page], orderSpare := none }
  else { j with nextPrimary := page + 1 }

/-- The record at the head takes the next step toward a slot: it is dropped, or its page is opened or
retired, or its slot is read (R115, R116, R118, R119, R127). -/
def Lane.writeHead (l : Lane) : Lane :=
  match l.journal.queue with
  | [] => l.lineOp none
  | q :: _ =>
    if l.headBarred q then l.dropHead
    else
      let l : Lane := { l with journal := { l.journal with
        headSequence := some (l.journal.headSequence.getD (l.journal.highest + 1)) } }
      match l.journal.writePage with
      | none => l.lineOp (some (.programOpen l.journal.orderPage false 1))
      | some _ => if 2 ≤ l.journal.voids then l.retire else l.lineOp (some .readSlot)

/-- A write may begin: the journal works, no operation waits, and no scan runs (R118, R124, R130). -/
def Lane.mayWrite (l : Lane) : Bool :=
  l.journal.state.works && l.journal.op.isNone && !l.sup.scanning && l.sup.testRun.isNone

/-- A record on its way goes on; otherwise the line is idle. -/
def Lane.goOn (l : Lane) : Lane :=
  if l.journal.headSequence.isSome then l.writeHead else l.lineOp none

/-- The write page is done with; the order goes on at the next primary page (R119, R120). -/
def Lane.leavePage (l : Lane) : Lane :=
  { l with journal := { l.journal with writePage := none, nextSlot := 1, voids := 0, op := none } }

/-- The slot at the write position is used: the page may now be retired or sealed (R119, R120). -/
def Lane.afterSlot (l : Lane) : Lane :=
  if 2 ≤ l.journal.voids then l.retire
  else if 15 < l.journal.nextSlot then l.lineOp (some (.sealRead 1))
  else l.goOn

/-- A RESTOCK record's sequence number reaches its position (R14, R117). -/
def Lane.reportWritten (l : Lane) (r : Record) (sequence : Nat) : Lane :=
  match r with
  | .restock (some i) _ _ =>
    { l with cass := { l.cass with
        entry := l.cass.entry.modify i (fun c => { c with lastRestock := some sequence }) } }
  | _ => l

/-- The head of the queue is written (R117, R118, R121, R122). -/
def Lane.headWritten (l : Lane) : Lane :=
  match l.journal.queue with
  | [] => l.lineOp none
  | q :: rest =>
    let sequence := l.journal.headSequence.getD 0
    let l : Lane := { l with journal := { l.journal with
      queue := rest
      headSequence := none
      op := none
      nextSlot := l.journal.nextSlot + 1
      highest := sequence
      reserved := if q.reserved then l.journal.reserved - 1 else l.journal.reserved } }
    (l.reportWritten q.record sequence).settleJournal.afterSlot

/-- A verification's outcome: as programmed, to be attempted again, or failed (R118). -/
inductive Verdict | ok | retry | failed
deriving DecidableEq, Repr

/-- What a read-back says of a pattern at an attempt: a 0 where a 1 was left fails at once, a 1 where a 0 was
programmed is tried again up to four attempts (R118). -/
def verdict (expected shown : SlotBits) (attempt : Nat) : Verdict :=
  if shown = expected then .ok
  else if expected &&& shown != expected then .failed
  else if attempt < Config.programAttempts then .retry
  else .failed

/-- The header OPEN with a page sequence, as it stands before a later state is programmed. -/
def Journal.ownHeader (j : Journal) : SlotBits := headerOpen j.lastPageSequence

/-- A page is open: the write position moves to its slot 1, and the last page sequence is its own, the one before
it kept for a page that is zeroed later (R115, R119). DESIGN CHOICE, log entry 14: it counts on past the 65,535
that a header can hold. -/
def Lane.pageOpened (l : Lane) (page : Nat) : Lane :=
  { l with journal := { l.journal with
      writePage := some page, nextSlot := 1, voids := 0
      lastPageSequence := l.journal.lastPageSequence + 1
      priorPageSequence := l.journal.lastPageSequence } }

/-- A page of the journal is opened or skipped. -/
def Lane.passPage (l : Lane) (page : Nat) : Lane := { l with journal := l.journal.passed page }

/-- The answer to an operation: the line's next operation, or its end (R115, R118 to R120). `shown` is what
the slot now reads. A page that is opened in the logical order and does not verify is skipped, and the order's next
page is opened, the next primary one even where the skipped page was a FRESH spare that a redirect names (DESIGN
CHOICE, log entry 14). -/
def Lane.answered (l : Lane) (op : LineOp) (shown : SlotBits) : Lane :=
  match op with
  | .readSlot =>
    if shown = BitVec.allOnes 128 then l.lineOp (some (.programSlot 1)) else l.lineOp (some .voidSlot)
  | .programSlot k => l.lineOp (some (.verifySlot k))
  | .verifySlot k =>
    match verdict l.headBits shown k with
    | .ok => l.headWritten
    | .retry => l.lineOp (some (.programSlot (k + 1)))
    | .failed => l.lineOp (some .voidSlot)
  | .voidSlot =>
    ({ l with journal := { l.journal with
        nextSlot := l.journal.nextSlot + 1, voids := l.journal.voids + 1, op := none } } : Lane)
      |>.settleJournal.afterSlot
  | .programOpen p r k => l.lineOp (some (.verifyOpen p r k))
  | .verifyOpen p r k =>
    match verdict (headerOpen (l.journal.lastPageSequence + 1)) shown k with
    | .ok =>
      if r then (l.passPage p).lineOp (some (.programRetire (some p) 1))
      else (((l.passPage p).pageOpened p).settleJournal).goOn
    | .retry => l.lineOp (some (.programOpen p r (k + 1)))
    | .failed => l.lineOp (some (.skipPage p r))
  | .skipPage p r =>
    if r then (l.passPage p).retire else (((l.passPage p).lineOp none).settleJournal).goOn
  | .programRetire s k => l.lineOp (some (.verifyRetire s k))
  | .verifyRetire s k =>
    match verdict (l.journal.ownHeader &&& headerRetired s) shown k with
    | .ok =>
      match s with
      | some p => ((l.pageOpened p).settleJournal).goOn
      | none => (l.leavePage.settleJournal).goOn
    | .retry => l.lineOp (some (.programRetire s (k + 1)))
    | .failed => l.lineOp (some .dropRetired)
  | .dropRetired =>
    let l : Lane := { l with journal := { l.journal with
      lastPageSequence := l.journal.priorPageSequence } }
    (l.leavePage.settleJournal).goOn
  | .sealRead s => if s < 15 then l.lineOp (some (.sealRead (s + 1))) else l.lineOp (some (.programSeal 1))
  | .programSeal k => l.lineOp (some (.verifySeal k))
  | .verifySeal k =>
    match verdict
        (l.journal.ownHeader &&& headerSealed (sealCheck l.journal.cells (l.journal.writePage.getD 0)))
        shown k with
    | .ok => l.leavePage.goOn
    | .retry => l.lineOp (some (.programSeal (k + 1)))
    | .failed => l.lineOp (some .unseal)
  | .unseal => l.leavePage.goOn

/-- The cartridge answers the operation that waits (R118, R124). -/
def Lane.lineAnswer (l : Lane) (seen : Option SlotBits) : Lane :=
  match l.journal.op with
  | none => l
  | some op =>
    let at_ := l.journal.target op
    let l' : Lane := { l with journal := { l.journal with cells := l.opCells op seen } }
    l'.answered op (Memory.readSlot l'.journal.cells at_.1 at_.2)

/-- The write at the head of the queue begins (R118). -/
def Lane.writeStart (l : Lane) : Lane := if l.mayWrite then l.writeHead else l

end Sys2Proof.Machine
end

