-- ==== Sys2Proof/Machine/LoopOps.lean ====
section
/-! DEFINITION. LoopOps: a change of a loop's filtered class and the role actions (R133 to R140). -/

namespace Sys2Proof.Machine

/-- The length of a filter time in milliseconds (R131). -/
def FilterTime.ms : FilterTime → Nat
  | .ms20 => 20
  | .ms50 => 50
  | .ms200 => 200
  | .ms500 => 500

/-- A loop's entry replaced. -/
def Lane.setLoop (l : Lane) (n : LoopNo) (e : Loop) : Lane :=
  { l with loops := { l.loops with entry := l.loops.entry.set n e } }

/-- The candidate timer of a loop starts afresh (R133). -/
def Lane.startCandidate (l : Lane) (n : LoopNo) : Lane :=
  l.setLoop n { l.loops.entry.get n with candidate := l.timer (l.settings.loop.get n).filter.ms }

/-- A measurement: the level code, and the candidate timer when the raw class changes (R132, R133). -/
def Lane.measured (l : Lane) (n : LoopNo) (code : Byte) : Lane :=
  let before := l.rawClass n
  let l := l.setLoop n { l.loops.entry.get n with level := code }
  let after := l.rawClass n
  if !l.setupDone || before = after then l
  else if (l.loops.entry.get n).filtered = some after then
    l.setLoop n { l.loops.entry.get n with candidate := none }
  else l.startCandidate n

/-- The phase after a change of the SAFE_DOOR loop's filtered class (R108). -/
def ServicePhase.door (p : ServicePhase) (c : LoopClass) : ServicePhase :=
  match p, c with
  | .beginning, .active => .doorOpen
  | .begun, .active => .doorOpen
  | .doorClosed, .active => .doorOpen
  | .doorOpen, .normal => .doorClosed
  | p, _ => p

/-- A used cassette that is not OUT becomes SUSPECT (R11). -/
def Lane.suspectUsed (l : Lane) (i : Position) : Lane :=
  let c := l.cass.entry.get i
  if c.mode = .unused ∨ c.state = .out then l else l.setCassette i { c with state := .suspect }

/-- The cassette door opened at an OPEN lane: every used cassette that is not OUT becomes SUSPECT (R11). -/
def Lane.doorSuspect (l : Lane) : Lane := (positions.foldl Lane.suspectUsed l).checkLost

/-- A vibration hit (R138). -/
def Lane.vibrationHit (l : Lane) (n : LoopNo) : Lane :=
  let kept := if Config.hitLimit ≤ l.loops.hits.length then l.loops.hits.drop 1 else l.loops.hits
  let hits := kept ++ [l.clock]
  let l : Lane := { l with loops := { l.loops with hits := hits } }
  if l.settings.vibration ≤ hits.length && !l.sup.causes.attack then
    let l := l.raise (fun c => { c with attack := true })
    l.strobeRaised.noticeBoth (.alarm n .vibration .active .attack)
  else l

/-- The role action of a filtered change (R135 to R139). -/
def Lane.roleAction (l : Lane) (n : LoopNo) (role : LoopRole) (c : LoopClass) : Lane :=
  let trouble := fun (l : Lane) => if c.trouble then l.noticeBoth (.loopTrouble n role c) else l
  match role with
  | .holdup => if c = .active then l.holdUp n else trouble l
  | .safeDoor =>
    let before := l.envelope.phase
    let l : Lane := { l with envelope := { l.envelope with phase := before.door c } }
    if c = .active ∧ before = .noService then l.doorAlarmed n
    else (trouble l).strobeSettle
  | .cassetteDoor =>
    if c = .active then
      if l.sup.service = .opened then l.doorSuspect.noticeBoth (.alarm n role c .cassetteDoor) else l
    else trouble l
  | .vibration => if c = .active then l.vibrationHit n else trouble l
  | .enclosure =>
    if c = .normal then l
    else trouble ((l.noticeBoth (.alarm n role c .enclosure)).raise (fun c => { c with enclosure := true }))
  | .spare => trouble l

/-- A change of a loop's filtered class (R134). -/
def Lane.filteredChange (l : Lane) (n : LoopNo) (left entered : LoopClass) : Lane :=
  let role := (l.settings.loop.get n).role
  let l := l.setLoop n { l.loops.entry.get n with filtered := some entered, latch := true, since := l.clock }
  (l.noticeSupervisor 0 (.loopChange n role left entered)).roleAction n role entered

/-- The candidate timer runs out: the raw class becomes the filtered class; a first class of NORMAL does
nothing else (R133). DESIGN CHOICE, log entry 24: at that first class of NORMAL the time in present class runs on
from the reset, as it did while the loop was UNFILTERED. -/
def Lane.filterExpired (l : Lane) (n : LoopNo) : Lane :=
  let e := l.loops.entry.get n
  let raw := l.rawClass n
  if e.candidate.isNone then l
  else
    let l := l.setLoop n { e with candidate := none }
    match e.filtered with
    | none =>
      if raw = .normal then l.setLoop n { e with candidate := none, filtered := some .normal }
      else l.filteredChange n .normal raw
    | some c => if c = raw then l else l.filteredChange n c raw

/-- The time in the present class in whole seconds, held at 65,535 (R131). -/
def Lane.loopSeconds (l : Lane) (e : Loop) : Nat := min 65535 ((l.clock - e.since) / 1000)

/-- What LOOPS reports (R140). -/
def Lane.loopReport (l : Lane) : ReplyBody :=
  .loops
    (Eight.ofFn (fun n =>
      let e := l.loops.entry.get n
      let s := l.settings.loop.get n
      { role := s.role, supervised := s.supervised, filter := s.filter, level := e.level,
        raw := l.rawClass n, filtered := e.filtered, latch := e.latch, seconds := l.loopSeconds e }))
    l.loops.hits.length l.sup.converterFault l.sup.powerLost

/-- A reply that reported POWER_LOST clears it (R140, R187, R188). -/
def Lane.powerReported (l : Lane) : Lane := { l with sup := { l.sup with powerLost := false } }

/-- The clear flag of LOOPS (R140). -/
def Lane.clearLoops (l : Lane) : Lane :=
  let calm := eightNumbers.all (fun n => (l.settings.loop.get n).role != .enclosure
    || (l.loops.entry.get n).filtered == some .normal)
  let l : Lane := { l with loops :=
    { entry := l.loops.entry.map (fun e => { e with latch := false }), hits := [] } }
  (l.withdrawCause (fun c => { c with attack := false, enclosure := c.enclosure && !calm })).strobeSettle

end Sys2Proof.Machine
end

