-- ==== Sys2Proof/Machine/Replay.lean ====
section
/-! DEFINITION. Replay: what the records of a start-up scan give the cassette table, the envelope controller
and the wall ledgers (R16 to R18, R97, R98, R110, R129, R197). -/

namespace Sys2Proof.Machine

/-- The replay while it reads the records: `open_` is the planned mix of a PICK not yet ended, `picked`
marks the positions of the mixes that were never ended (R17). -/
structure Replay where
  entry : Four ReplayEntry
  bin : Nat
  serial : Nat
  places : Nat
  epoch : Nat
  open_ : Option (Four Nat)
  picked : Four Bool
deriving DecidableEq, Repr

/-- The replay before the first record. -/
def Replay.start : Replay where
  entry := Four.replicate ReplayEntry.unanchored
  bin := 0
  serial := 0
  places := 0
  epoch := 0
  open_ := none
  picked := Four.replicate false

/-- A PICK that nothing has ended marks the positions its planned mix names (R17). -/
def Replay.unended (r : Replay) : Replay :=
  match r.open_ with
  | none => r
  | some planned =>
    { r with open_ := none, picked := Four.ofFn (fun i => r.picked.get i || 0 < planned.get i) }

/-- Every position is marked SUSPECT; a later anchor takes the mark away (R17). -/
def Replay.markAll (r : Replay) : Replay :=
  { r with entry := r.entry.map (fun e => { e with suspect := true }) }

/-- Drawn notes are taken off an anchored entry; a count that would fall below 0 is held and marked
(R16). -/
def ReplayEntry.draw (e : ReplayEntry) (n : Nat) : ReplayEntry :=
  if e.anchored then { e with count := e.count - n, suspect := e.suspect || e.count < n } else e

/-- Notes and values that a KEPT record adds to an anchored entry; the values wait for the modes (R16,
R197). -/
def ReplayEntry.keep (e : ReplayEntry) (k : KeptItem) (n : Nat) : ReplayEntry :=
  if e.anchored then { e with count := e.count + n, kept := e.kept ++ [k] } else e

/-- The drawn and binned notes of a PAID, RETRACT or PURGE record (R16). -/
def Replay.paid (r : Replay) (drawn : Four Nat) (binned : Nat) : Replay :=
  { r with
    entry := Four.ofFn (fun i => (r.entry.get i).draw (drawn.get i))
    bin := r.bin + binned }

/-- One readable record (R16, R17, R97, R98, R110). -/
def Replay.read (r : Replay) (sequence : Nat) : Record → Replay
  | .start _ loss => if loss then r.unended.markAll else r.unended
  | .pick _ _ planned => { r.unended with open_ := some planned }
  | .paid _ _ drawn binned => { r.paid drawn binned with open_ := none }
  | .retract _ _ _ drawn binned => { r.paid drawn binned with open_ := none }
  | .purge .start drawn binned => r.paid drawn binned
  | .purge _ drawn binned => { r.paid drawn binned with open_ := none }
  | .kept added v1 v2 =>
    { r with entry := Four.ofFn (fun i => (r.entry.get i).keep ⟨added, v1, v2⟩ (added.get i)) }
  | .capture _ notes => { r with bin := r.bin + notes }
  | .envelope serial _ => { r with serial := serial, places := r.places + 1 }
  | .safeEmptied epoch => { r with places := 0, epoch := epoch }
  | .restock none _ _ => { r with bin := 0 }
  | .restock (some i) denomination count =>
    { r with
      entry := r.entry.set i
        { anchored := true, count := count, denomination := denomination,
          lastRestock := some sequence, kept := [], suspect := false } }
  | .lockdown _ | .resume | .drawerCleared _ _ => r

/-- One slot of the scan: a VOID one is passed over, an unreadable one marks every position (R17, R129,
R197). -/
def Replay.slot (r : Replay) (e : ScanEntry) : Replay :=
  match e.status with
  | .void | .beyondEnd => r
  | .checkBad => r.markAll
  | .good =>
    match decodeRecord e.value with
    | none => r.markAll
    | some record => r.read (slotSequence e.value) record

/-- The replay of a whole scan; `loss` is the queue loss flag of the reset just taken (R17, R128). DESIGN CHOICE, log
entry 15: a gap in the sequence numbers of the records marks nothing. R119 says that the replay marks SUSPECT as the
gaps warrant, but neither R17 nor R127 says what a gap marks. -/
def replay (entries : List ScanEntry) (loss : Bool) : Replay :=
  let r := (entries.foldl Replay.slot Replay.start).unended
  { r with entry := Four.ofFn (fun i =>
      let e := r.entry.get i
      { e with suspect := e.suspect || r.picked.get i || loss }) }

/-- What a KEPT record gives a position: its first value to the lowest DEPOSIT position that has notes
added, the second to the next (R197). -/
def KeptItem.value (k : KeptItem) (deposit : Position → Bool) (i : Position) : Nat :=
  let targets := positions.filter (fun p => deposit p && 0 < k.added.get p)
  if targets[0]? = some i then k.value1 else if targets[1]? = some i then k.value2 else 0

/-- A cassette entry as SETUP_DONE makes it from the settings and the held replay (R18). -/
def appliedEntry (s : Four PositionSetting) (r : Four ReplayEntry) (present : Four Bool) (i : Position) :
    Cassette :=
  let set := s.get i
  let e := r.get i
  let deposit : Position → Bool := fun p => (s.get p).mode == CassMode.deposit
  let value := (e.kept.map (fun k => k.value deposit i)).sum
  let blank : Cassette :=
    { mode := set.mode, denomination := none, count := 0, value := none, capacity := set.capacity,
      lowMark := set.lowMark, state := .unused, badRun := 0, cause := none, lastRestock := e.lastRestock }
  match set.mode with
  | .unused => blank
  | .dispense | .recycle | .deposit =>
    let suspect := e.suspect || set.capacity < e.count
      || (if set.mode = CassMode.deposit then e.denomination.isSome else e.denomination != set.denomination)
    let c := { blank with
      denomination := if set.mode = CassMode.deposit then none else set.denomination
      count := min e.count set.capacity
      value := if set.mode = CassMode.deposit then some value else none }
    if !present.get i then { c with state := .out, cause := some .removed }
    else if suspect then { c with state := .suspect }
    else { c with state := c.derive }

end Sys2Proof.Machine
end

