-- ==== Sys2Proof/Machine/Startup.lean ====
section
/-! DEFINITION. Startup: resets, the self-test, the end of the scan, homing, the settings and SETUP_DONE,
TEST (chapter 12, R73, R98, R127 to R130, R146). -/

namespace Sys2Proof.Machine

/-! ### The scan and homing -/

/-- Homing begins with its step 1 (R190). -/
def Lane.beginHoming (l : Lane) : Lane :=
  { l with sup := { l.sup with
    scanning := false, homing := { l.sup.homing with running := true, step := .module } } }

/-- The values of a start without a replay: the journal in FAULT or ABSENT (R17, R97, R98, R110, R189). -/
def Lane.noReplay (l : Lane) (st : JournalState) : Lane :=
  { l with
    journal := l.journal.unmapped st
    cass := { l.cass with
      replay := Four.replicate ReplayEntry.unanchored
      bin := { l.cass.bin with count := Config.homingBinRoom } }
    ledgers := { l.ledgers with places := Config.peerPlacesLimit }
    envelope := { l.envelope with serial := 0, epoch := 0 }
    sup := { l.sup with causes := { l.sup.causes with journal := true } } }

/-- The start-up scan ends with the cartridge read: page map and replay (R127, R129). -/
def Lane.scanned (l : Lane) : Lane :=
  let w := walk true l.journal.cells
  let r := replay w.entries l.sup.queueLoss
  let j := { l.journal.mapped w with reserved := 0, lost := false }
  { l with
    journal := { j with state := journalStateOf j.free 0 }
    cass := { l.cass with replay := r.entry, bin := { l.cass.bin with count := r.bin } }
    ledgers := { l.ledgers with places := r.places }
    envelope := { l.envelope with serial := r.serial, epoch := r.epoch } }

/-- The start-up scan ends (R127). DESIGN CHOICE, log entry 14: whether a cartridge is present is looked at now,
and not at the reset (R127, R189). -/
def Lane.scanComplete (l : Lane) : Lane :=
  if l.sup.scanning then
    (if l.journal.present then l.scanned else l.noReplay .absent).beginHoming
  else l

/-- The start-up scan is broken off: the cartridge did not answer, or was removed (R124, R127). -/
def Lane.scanBroken (l : Lane) (st : JournalState) : Lane := (l.noReplay st).beginHoming

/-! ### Resets and the self-test -/

/-- What a reset leaves of the lane: every block as its chapter states, the cartridge and the readings of
the sensors as they are (R188, log entries 5 and 6). -/
def Lane.cleared (l : Lane) (inp : ResetInputs) (cause : ResetCause) (loss : Bool) : Lane :=
  let l := l.interruptLine
  let f := Lane.afterReset inp.lane inp.laneCount cause loss
  { f with
    cass := { f.cass with present := l.cass.present }
    drawer := { f.drawer with tray := l.drawer.tray, atEnd := l.drawer.atEnd }
    envelope := { f.envelope with entry := l.envelope.entry, held := l.envelope.held }
    journal := { f.journal with cells := l.journal.cells, present := l.journal.present }
    loops := { f.loops with
      entry := Eight.ofFn (fun n => { f.loops.entry.get n with level := (l.loops.entry.get n).level }) }
    drivers := { f.drivers with
      entry := Eight.ofFn (fun n => { f.drivers.entry.get n with stage := (l.drivers.entry.get n).stage }) }
    free := l.free }

/-- Self-test steps 3 and 4; a failure leaves the journal taken as FAULT, and homing follows (R146,
R189). -/
def Lane.selfTest (l : Lane) (converter : Byte) : Lane :=
  let l := l.offStateCheck
  if !l.driverTestPassed then
    ((l.withdrawCause (fun c => { c with driverTest := true })).noReplay .fault).beginHoming
  else if !converterOk converter then
    let l : Lane := { l with sup := { l.sup with converterFault := true } }
    ((l.withdrawCause (fun c => { c with converter := true })).noReplay .fault).beginHoming
  else { l with sup := { l.sup with scanning := true } }

/-- A reset: the blocks cleared, a temperature sensor that reads hot acting first, and the self-test
(R145, R188, R189). -/
def Lane.resetWith (l : Lane) (inp : ResetInputs) (cause : ResetCause) (loss : Bool) : Lane :=
  let hot := l.drivers.hot
  let l := l.cleared inp cause loss
  let l := if hot then l.hotReport else l
  if inp.memoryOk && inp.loopbackOk then l.selfTest inp.converter
  else { l with sup := { l.sup with service := .failed } }

/-! ### The end of homing (R190, R191) -/

/-- A record that counts at least one note joins (R190). -/
def Lane.joinCounted (l : Lane) (n : Nat) (r : Record) : Lane := if n = 0 then l else l.joinUnreserved r

/-- Records join in order, none under a reservation. -/
def Lane.joinRecords (l : Lane) : List Record → Lane
  | [] => l
  | r :: rest => (l.joinUnreserved r).joinRecords rest

/-- The homing records join in the order made, START last, and then the held LOCKDOWN records (R152,
R190). -/
def Lane.joinHoming (l : Lane) : Lane :=
  let h := l.sup.homing
  let l := l.joinCounted h.moduleNotes (.purge .start (Four.replicate 0) h.moduleNotes)
  let l := l.joinCounted h.trayNotes (.capture .start h.trayNotes)
  let l := l.joinCounted h.escrowNotes (.capture .start h.escrowNotes)
  let l := match h.envelope with | none => l | some serial => l.joinUnreserved (.envelope serial false)
  let l := l.joinUnreserved (.start l.sup.resetCause l.sup.queueLoss)
  let l := l.joinRecords l.lockdown.heldRecords
  { l with lockdown := { l.lockdown with heldRecords := [] } }

/-- Homing ends: what has not reported is taken as done, the records join, and the lane is in SETUP (R190; log
entry 6). -/
def Lane.homingComplete (l : Lane) : Lane :=
  if l.homes then
    let l := l.homeDrawer.homeEnvelope.joinHoming
    let l : Lane := { l with
      sup := { l.sup with service := .setup, homing := { l.sup.homing with running := false } }
      ledgers := { l.ledgers with silence := l.timer l.silenceTime } }
    l.queueStatus
  else l

/-! ### The settings (R192) -/

/-- A value brought to the nearer limit of its range (R192). -/
def clamp (lo hi v : Nat) : Nat := max lo (min hi v)

/-- The modes by code (R1, R196). -/
def modeOf : Nat → Option CassMode
  | 0 => some .dispense | 1 => some .recycle | 2 => some .deposit | 3 => some .unused | _ => none

/-- The roles by code (R131, R196). -/
def roleOf : Nat → Option LoopRole
  | 0 => some .holdup | 1 => some .safeDoor | 2 => some .cassetteDoor | 3 => some .vibration
  | 4 => some .enclosure | 5 => some .spare | _ => none

/-- The filter times by code (R131, R196). -/
def filterOf : Nat → Option FilterTime
  | 0 => some .ms20 | 1 => some .ms50 | 2 => some .ms200 | 3 => some .ms500 | _ => none

/-- The drawer policies by code (R156, R196). -/
def policyOf : Nat → Option DrawerPolicy
  | 0 => some .retract | 1 => some .leave | _ => none

/-- A yes-or-no flag by code, yes first (R192, R196; log entry 10). -/
def yesOf : Nat → Option Bool
  | 0 => some true | 1 => some false | _ => none

/-- A console number (R192). -/
def consoleOf (v : Nat) : Option Station :=
  if h : 8 ≤ v ∧ v ≤ 14 then some ⟨v, by omega⟩ else none

/-- The position settings with one changed, for a selector that names a position (R192). -/
def Settings.atPosition (s : Settings) (sel : Nat) (f : PositionSetting → PositionSetting) :
    Option Settings :=
  if sel < 4 then some { s with position := s.position.modify (Fin.ofNat 4 sel) f } else none

/-- The loop settings with one changed, for a selector that names a loop (R192). -/
def Settings.atLoop (s : Settings) (sel : Nat) (f : LoopSetting → LoopSetting) : Option Settings :=
  if sel < 8 then some { s with loop := s.loop.modify (Fin.ofNat 8 sel) f } else none

/-- The settings with one item replaced, by its code; none for a code outside its set, an item that names
none, and a selector that names nothing (R192, R196). -/
def Settings.withItem (s : Settings) (item sel v : Nat) : Option Settings :=
  let plain := fun (x : Option Settings) => if sel = 0 then x else none
  match item with
  | 0 => plain (some { s with wall := clamp 1000 500000 v })
  | 1 => plain (some { s with cap := clamp 100 500000 v })
  | 2 => plain (some { s with safe := clamp 100 5000 v })
  | 3 => plain (some { s with announce := clamp 1 10 v })
  | 4 => plain (some { s with takeTimeout := clamp 10 120 v })
  | 5 => plain (some { s with intakeWait := clamp 15 120 v })
  | 6 => plain (some { s with slotTimeout := clamp 15 120 v })
  | 7 => plain (some { s with escrowTimeout := clamp 30 600 v })
  | 8 => plain (some { s with lockdownHold := clamp 60 1800 v })
  | 9 => plain (some { s with vibration := clamp 2 8 v })
  | 10 => plain (some { s with strobeMinOn := clamp 1 3 v })
  | 11 => plain (some { s with binCapacity := clamp 100 400 v })
  | 12 => (modeOf v).bind (fun m => s.atPosition sel (fun p => { p with mode := m }))
  | 13 => s.atPosition sel (fun p => { p with denomination := some (clamp 1 1000 v) })
  | 14 => s.atPosition sel (fun p => { p with capacity := clamp 100 2500 v })
  | 15 => s.atPosition sel (fun p => { p with lowMark := clamp 0 2500 v })
  | 16 =>
    if sel < 8 then
      some { s with denominations := s.denominations.set (Fin.ofNat 8 sel) (some (clamp 1 1000 v)) }
    else none
  | 17 => (roleOf v).bind (fun r => s.atLoop sel (fun p => { p with role := r }))
  | 18 => (yesOf v).bind (fun b => s.atLoop sel (fun p => { p with supervised := b }))
  | 19 => (filterOf v).bind (fun t => s.atLoop sel (fun p => { p with filter := t }))
  | 20 =>
    if sel < 8 then
      (yesOf v).map (fun b => { s with diagnostics := s.diagnostics.set (Fin.ofNat 8 sel) b })
    else none
  | 21 => plain ((policyOf v).map (fun p => { s with policy := p }))
  | 22 => plain ((yesOf v).map (fun b => { s with safeLane := b }))
  | 23 => plain ((consoleOf v).map (fun c => { s with attending := some c }))
  | 24 => plain ((consoleOf v).map (fun c => { s with supervisor := some c }))
  | 25 => plain (some s)
  | _ => none

/-- The values of a list given twice (R193). -/
def givenTwice : List (Option Nat) → Bool
  | [] => false
  | none :: rest => givenTwice rest
  | some v :: rest => rest.contains (some v) || givenTwice rest

/-- The number of the first check of SETUP_DONE that fails (R193). -/
def Settings.failedCheck (s : Settings) : Option Nat :=
  let ps := s.position.toList
  let doors := (s.loop.toList.filter (fun x => x.role == .safeDoor)).length
  if s.wall < s.cap then some 1
  else if ps.any (fun p => (p.mode == .dispense || p.mode == .recycle) && p.denomination.isNone) then some 2
  else if givenTwice s.denominations.toList then some 3
  else if ps.any (fun p => p.mode == .recycle && !s.denominations.toList.contains p.denomination) then some 4
  else if doors != (if s.safeLane then 1 else 0) then some 5
  else if s.attending.isNone || s.supervisor.isNone then some 6
  else none

/-- The low marks are lowered to their capacities (R192). -/
def Settings.settled (s : Settings) : Settings :=
  { s with position := s.position.map (fun p => { p with lowMark := min p.lowMark p.capacity }) }

/-- The cassette table takes the replay and the settings (R9, R18). -/
def Lane.applyCassettes (l : Lane) : Lane :=
  let s := l.settings
  { l with cass := { l.cass with
      entry := Four.ofFn (appliedEntry s.position l.cass.replay l.cass.present)
      bin := { l.cass.bin with capacity := max s.binCapacity l.cass.bin.count }
      denominations := s.denominations } }

/-- The drivers take their off-state diagnostics; an OPEN_OFF no longer checked leaves its live set (R141,
log entry 10). -/
def Lane.applyDrivers (l : Lane) : Lane :=
  { l with drivers := { l.drivers with
      entry := Eight.ofFn (fun n =>
        let e := l.drivers.entry.get n
        let on := l.settings.diagnostics.get n
        { e with diagnostics := on, live := { e.live with openOff := e.live.openOff && on } }) } }

/-- Every UNKNOWN entry is given its listen deadline (R165). -/
def Lane.applyListen (l : Lane) : Lane :=
  { l with ledgers := { l.ledgers with
      peer := l.ledgers.peer.map (fun p =>
        if p.state = .unknown then { p with deadline := l.listenDeadline } else p) } }

/-- The notice SETUP_DONE sends for a cassette (R12). -/
def Lane.announceCassette (l : Lane) (i : Position) : Lane :=
  let c := l.cass.entry.get i
  l.noticeBoth (.cassetteChange (some i) (.inl c.state) c.cause c.count)

/-- The notices SETUP_DONE sends for the cassettes and the bin (R12). -/
def Lane.announceCassettes (l : Lane) : Lane :=
  let l := positions.foldl Lane.announceCassette l
  l.noticeBoth (.cassetteChange none (.inr l.cass.bin.state) none l.cass.bin.count)

/-- The notice SETUP_DONE sends for a driver with a latched fault (R143). -/
def Lane.announceDriver (l : Lane) (d : Driver) : Lane :=
  let e := l.driver d
  if e.latched.isEmpty then l else l.noticeBoth (.driverFault d e.latched e.live)

/-- The notices SETUP_DONE sends for the drivers (R143). -/
def Lane.announceDrivers (l : Lane) : Lane := Sys2Proof.drivers.foldl Lane.announceDriver l

/-- A running silence timer counts to 5 of the announce periods now in force from the frame that last
restarted it: it moves with the period (R174; DEDUCED, log entry 18). -/
def Lane.moveSilence (l : Lane) (before : Nat) : Lane :=
  { l with ledgers := { l.ledgers with
      silence := l.ledgers.silence.map (fun t => t - before + l.silenceTime) } }

/-- The settings take effect, each block acts on them, and the lane is CLOSED (R193). -/
def Lane.applySettings (l : Lane) : Lane :=
  let before := l.silenceTime
  let l := ({ l with settings := l.sup.pending.settled } : Lane).moveSilence before
  let l := l.applyCassettes
  let l := eightNumbers.foldl Lane.startCandidate l
  let l := l.applyDrivers.applyListen
  let l : Lane := { l with sup := { l.sup with service := .closed, setupConsole := none } }
  let l := l.announceCassettes.announceDrivers
  let l := if l.mismatch then l.sendMismatch else l
  let l := if l.settings.safeLane then l.send (.serviceEnd false) everyStation 0 else l
  l.followLane.queueStatus

/-! ### TEST (R130, R194) -/

/-- The record at the head is the last one the rescan found written: same sequence number, kind and payload
(R130). -/
def sameRecord (q : QueuedRecord) (sequence : Nat) (e : ScanEntry) : Bool :=
  slotSequence e.value == sequence && e.value.toNat / 2 ^ 124 == q.record.kindCode
    && ((slotBitList e.value).drop 56).take 56 == q.record.payload

/-- The head of the queue after a rescan: taken as written, its reserved slot used and the journal state derived
again, or to be written with a number assigned afresh (R122, R123, R130). -/
def Lane.recheckHead (l : Lane) (last : Option ScanEntry) : Lane :=
  match l.journal.queue, l.journal.headSequence, last with
  | q :: rest, some sequence, some e =>
    if sameRecord q sequence e then
      let l : Lane := { l with journal := { l.journal with
        queue := rest, headSequence := none
        reserved := if q.reserved then l.journal.reserved - 1 else l.journal.reserved } }
      (l.reportWritten q.record sequence).settleJournal
    else { l with journal := { l.journal with headSequence := none } }
  | _, _, _ => { l with journal := { l.journal with headSequence := none } }

/-- The journal state a failed rescan leaves: ABSENT without a cartridge; ABSENT too after a removal, which
an insertion during the TEST does not undo; FAULT otherwise (R124, R127, R130). -/
def Journal.rescanFailed (j : Journal) : JournalState :=
  if !j.present || j.state == .absent then .absent else .fault

/-- A rescan that has read the cartridge: the page map is the walk's, the reserved slots are lowered to the free
ones and the journal state is derived with them, and the head of the queue is looked at after that (R123, R125,
R130). -/
def Lane.rescanned (l : Lane) (w : Walk) : Lane :=
  let l : Lane := { l with journal := l.journal.mapped w }
  let reserved := min l.journal.reserved l.journal.free
  let l : Lane := { l with journal := { l.journal with reserved := reserved } }
  (l.enterJournal (journalStateOf l.journal.free reserved)).recheckHead w.lastWritten

/-- The rescan of step 5 (R130); the flag says whether it passed. A line operation of the write in progress
that waits at TEST_COMPLETE is cut short, its programming partial by a free value (DESIGN CHOICE, log entries
9 and 14). A failed rescan leaves no free slot and keeps the reserved slots, which the next passing rescan
lowers to the free ones (DESIGN CHOICE, log entry 14). -/
def Lane.rescan (l : Lane) : Lane × Bool :=
  let l := l.interruptLine
  if !l.journal.present || l.sup.testFault then
    (({ l with journal := l.journal.unmapped l.journal.state } : Lane).enterJournal l.journal.rescanFailed,
      false)
  else (l.rescanned (walk true l.journal.cells), true)

/-- The end of a TEST run: NOTICE TEST_RESULT with the last step run (R194). -/
def Lane.testResult (l : Lane) (tag : Tag) (step : Nat) (pass : Bool) : Lane :=
  ({ l with sup := { l.sup with testRun := none, testFault := false } } : Lane).noticeSupervisor tag
    (.testResult step pass)

/-- A TEST run ends: steps 3, 4 and 5 in order, stopping at the first failure (R146, R194). -/
def Lane.testComplete (l : Lane) (converter : Byte) : Lane :=
  match l.sup.testRun with
  | none => l
  | some tag =>
    let l := l.offStateCheck
    if !l.driverTestPassed then
      (l.raise (fun c => { c with driverTest := true })).testResult tag 3 false
    else
      let l := l.withdrawCause (fun c => { c with driverTest := false })
      let l : Lane := { l with sup := { l.sup with converterFault := !converterOk converter } }
      if !converterOk converter then
        (l.raise (fun c => { c with converter := true })).testResult tag 4 false
      else
        let l := l.withdrawCause (fun c => { c with converter := false })
        let r := l.rescan
        let l := r.1
        if !r.2 then (l.raise (fun c => { c with journal := true })).testResult tag 5 false
        else
          let l := l.withdrawCause (fun c => { c with journal := false })
          let l : Lane := if l.envelope.path = .fault then
            { l with envelope := { l.envelope with path := .idle } } else l
          l.testResult tag 5 true

end Sys2Proof.Machine
end

