-- ==== Sys2Proof/Machine/Alarms.lean ====
section
/-! DEFINITION. Alarms: the commands of the loop monitor, the driver bank and the lockdown controller
(chapters 8 and 9). -/

namespace Sys2Proof.Machine

/-- A REPLY reports POWER_LOST: once queued, it clears it (R140, R187, R188). -/
def Lane.replyPower (l : Lane) (h : Sender) (kind : Fin 32) (body : ReplyBody) : Lane :=
  let l' := l.reply h kind .done body
  if l'.bus.queue = l.bus.queue then l' else l'.powerReported

/-- LOOPS without the clear flag (R140). -/
def Lane.loopsRequest (l : Lane) (h : Sender) : Lane := l.replyPower h kindLoops l.loopReport

/-- LOOPS with the clear flag (R140). -/
def Lane.loopsClearRequest (l : Lane) (h : Sender) : Lane :=
  l.supervised h kindLoops fun l => (l.replyPower h kindLoops l.loopReport).clearLoops

/-- DRIVERS without the clear flag (R144). -/
def Lane.driversRequest (l : Lane) (h : Sender) : Lane := l.reply h kindDrivers .done l.driverReport

/-- The clear of DRIVERS: each latched set keeps the kinds still live, and what waited on them acts
(R144). -/
def Lane.clearDrivers (l : Lane) : Lane :=
  let l : Lane := { l with drivers := { l.drivers with
    entry := l.drivers.entry.map (DriverEntry.clearLatched l.clock) } }
  l.retryDeferred.followDriverCause

/-- DRIVERS with the clear flag (R144). -/
def Lane.driversClearRequest (l : Lane) (h : Sender) : Lane :=
  l.supervised h kindDrivers fun l =>
    ((l.reply h kindDrivers .done l.driverReport).clearDrivers).settleRun

/-- The whole seconds left on the hold timer, a part counting as one: 1 to 1,800 (R157). -/
def Lane.remainingHold (l : Lane) : Nat :=
  match l.lockdown.hold with
  | none => 0
  | some t => max 1 ((t - l.clock + 999) / 1000)

/-- The change to CLEAR reaches the blocks that wait on it (R83, R84, R147, R148, R158, R172). -/
def Lane.afterResume (l : Lane) : Lane :=
  let l := l.retryDeferred.resumeEscrow
  let l := if l.strobeCause then l.strobeRaised else l
  l.followLane.queueStatus

/-- RESUME's actions (R158). -/
def Lane.resumed (l : Lane) (h : Sender) : Lane :=
  let l : Lane := { l with lockdown := { l.lockdown with state := .clear, hold := none } }
  let l := (l.joinUnreserved .resume).command .silentRelay false
  let l := l.leaveOpen
  (l.reply h kindResume .done (.lanesLocked l.lanesLocked)).afterResume

/-- RESUME (R157). -/
def Lane.resumeRequest (l : Lane) (h : Sender) : Lane :=
  l.supervised h kindResume fun l =>
    match l.lockdown.state with
    | .clear => l.reply h kindResume .state (.remainingHold 0)
    | .locked => l.reply h kindResume .state (.remainingHold l.remainingHold)
    | .releasable =>
      if l.holdupActive then l.reply h kindResume .locked else (l.resumed h).settleRun

/-- The hold timer expires (R153). -/
def Lane.holdExpired (l : Lane) : Lane :=
  if l.lockdown.state = .locked ∧ l.lockdown.hold.isSome = true then
    ({ l with lockdown := { l.lockdown with state := .releasable, hold := none } } : Lane).queueStatus
  else l

/-- A heard break destroys the attempt on the line and enters or restarts lockdown; none is reported while
the station drives its own (R151, R180). -/
def Lane.breakHeard (l : Lane) : Lane :=
  if l.bus.breakTimer.isSome then l else (l.takeOffLine.heardLockdown none).settleRun

/-- The driven break ends (R180). -/
def Lane.breakEnds (l : Lane) : Lane := { l with bus := { l.bus with breakTimer := none } }

/-- The strobe's minimum on timer expires (R147). -/
def Lane.minOnExpired (l : Lane) : Lane :=
  if l.drivers.strobeMinOn.isSome then
    ({ l with drivers := { l.drivers with strobeMinOn := none } } : Lane).strobeSettle
  else l

/-- The lamp's hold expires (R148). -/
def Lane.lampHoldExpired (l : Lane) : Lane :=
  if l.drivers.lampHold.isSome then
    ({ l with drivers := { l.drivers with lampHold := none } } : Lane).switchLamp
  else l

/-- LOOPS (R140). -/
def execLoops (h : Sender) (s : State) : Host.Outcome State Fault Refusal :=
  s.onLane (fun l => l.take h (fun l => l.loopsRequest h))

/-- LOOPS with the clear flag (R140). -/
def execLoopsClear (h : Sender) (s : State) : Host.Outcome State Fault Refusal :=
  s.onLane (fun l => l.take h (fun l => l.loopsClearRequest h))

/-- DRIVERS (R144). -/
def execDrivers (h : Sender) (s : State) : Host.Outcome State Fault Refusal :=
  s.onLane (fun l => l.take h (fun l => l.driversRequest h))

/-- DRIVERS with the clear flag (R144). -/
def execDriversClear (h : Sender) (s : State) : Host.Outcome State Fault Refusal :=
  s.onLane (fun l => l.take h (fun l => l.driversClearRequest h))

/-- RESUME (R157). -/
def execResume (h : Sender) (s : State) : Host.Outcome State Fault Refusal :=
  s.onLane (fun l => l.take h (fun l => l.resumeRequest h))

/-- LOCKDOWN_FRAME_HEARD (R151). -/
def execLockdownFrameHeard (source : Station) (origin : Option LoopOrigin) (s : State) :
    Host.Outcome State Fault Refusal :=
  s.onLane (fun l =>
    if source = laneStation l.sup.lane then (l.lockdownFrame source origin).settleRun
    else l.heardFrom source (fun l => ((l.stationHeard source).lockdownFrame source origin).settleRun))

/-- BREAK_HEARD (R151). -/
def execBreakHeard (s : State) : Host.Outcome State Fault Refusal := s.onLane Lane.breakHeard

/-- BREAK_END (R180). -/
def execBreakEnd (s : State) : Host.Outcome State Fault Refusal := s.onLane Lane.breakEnds

/-- LOOP_MEASUREMENT (R132). -/
def execLoopMeasurement (loop : LoopNo) (code : Byte) (s : State) : Host.Outcome State Fault Refusal :=
  s.onLane (fun l => l.measured loop code)

/-- LOOP_FILTER_EXPIRY (R133). -/
def execLoopFilterExpiry (loop : LoopNo) (s : State) : Host.Outcome State Fault Refusal :=
  s.onLane (fun l => (l.filterExpired loop).settleRun)

/-- HIT_AGEING: the oldest hit leaves the list (R138). -/
def execHitAgeing (s : State) : Host.Outcome State Fault Refusal :=
  s.onLane (fun l => { l with loops := { l.loops with hits := l.loops.hits.drop 1 } })

/-- HOLD_TIMER_EXPIRY (R153). -/
def execHoldTimerExpiry (s : State) : Host.Outcome State Fault Refusal := s.onLane Lane.holdExpired

/-- DRIVER_CONDITION_CHANGE (R142). -/
def execDriverConditionChange (d : Driver) (c : Condition) (appears : Bool) (s : State) :
    Host.Outcome State Fault Refusal :=
  s.onLane (fun l => l.stageReport d c appears)

/-- BLANKING_EXPIRY (R142). -/
def execBlankingExpiry (d : Driver) (s : State) : Host.Outcome State Fault Refusal :=
  s.onLane (fun l => l.blankingOver d)

/-- TEMP_HOT (R145). -/
def execTempHot (s : State) : Host.Outcome State Fault Refusal := s.onLane Lane.hotReport

/-- TEMP_NORMAL (R145). -/
def execTempNormal (s : State) : Host.Outcome State Fault Refusal := s.onLane Lane.normalReport

/-- STROBE_MIN_ON_EXPIRY (R147). -/
def execStrobeMinOnExpiry (s : State) : Host.Outcome State Fault Refusal := s.onLane Lane.minOnExpired

/-- LAMP_HOLD_EXPIRY (R148). -/
def execLampHoldExpiry (s : State) : Host.Outcome State Fault Refusal := s.onLane Lane.lampHoldExpired

end Sys2Proof.Machine
end

