-- ==== Sys2Proof/Machine/Cassettes.lean ====
section
/-! DEFINITION. Cassettes: INVENTORY, RESTOCK and the presence sensors (R10, R13 to R15). -/

namespace Sys2Proof.Machine

/-- INVENTORY (R15). -/
def Lane.inventoryRequest (l : Lane) (h : Sender) (selector : Byte) : Lane :=
  let n := selector.toNat
  let answer := fun (body : ReplyBody) => l.reply h kindInventory .done body
  if 5 < n then l.reply h kindInventory .malformed
  else if !l.setupDone then l.reply h kindInventory .state
  else if n = 5 then answer (.denominations l.cass.denominations)
  else if n = 4 then answer (.bin l.cass.bin.count l.cass.bin.capacity l.cass.bin.state)
  else answer (.cassette (l.cass.entry.get (Fin.ofNat 4 n)))

/-- The count and denomination are acceptable for a cassette (R13). -/
def Cassette.accepts (c : Cassette) (count : Nat) (denomination : Option Nat) : Bool :=
  match c.mode with
  | .dispense | .recycle => count ≤ c.capacity && denomination.isSome && denomination == c.denomination
  | .deposit => count = 0 && denomination.isNone
  | .unused => false

/-- A cassette after a RESTOCK (R14). -/
def Cassette.restocked (c : Cassette) (count : Nat) : Cassette :=
  let c := { c with
    count := count
    value := if c.mode = CassMode.deposit then some 0 else c.value
    badRun := 0
    cause := none }
  { c with state := c.derive }

/-- The record of an accepted RESTOCK joins under its reservation, and the REPLY is DONE (R14). A NOTICE JOURNAL that
the reservation causes is queued before that REPLY (DESIGN CHOICE, log entry 23: R14 and R123 give the two no
order). -/
def Lane.recordRestock (l : Lane) (h : Sender) (target : Option Position) (denomination : Option Nat)
    (count : Nat) : Lane :=
  ((l.reserve 1).joinReserved (.restock target denomination count)).reply h kindRestock .done

/-- RESTOCK of a position (R13, R14). -/
def Lane.restockPosition (l : Lane) (h : Sender) (i : Position) (count : Nat) (denomination : Option Nat) :
    Lane :=
  let answer := l.reply h kindRestock
  let c := l.cass.entry.get i
  if c.mode = CassMode.unused then answer .state
  else if l.payout.isSome || l.intake.isSome then answer .busy
  else if c.state = CassState.out then answer .unavailable
  else if !c.accepts count denomination then answer .range
  else if !l.canReserve 1 then answer .journal
  else (l.recordRestock h (some i) denomination count).setCassette i (c.restocked count)

/-- RESTOCK of the bin (R13, R14). -/
def Lane.restockBin (l : Lane) (h : Sender) (count : Nat) (denomination : Option Nat) : Lane :=
  let answer := l.reply h kindRestock
  if l.payout.isSome || l.intake.isSome then answer .busy
  else if count ≠ 0 ∨ denomination.isSome then answer .range
  else if !l.canReserve 1 then answer .journal
  else (l.recordRestock h none none 0).setBin { l.cass.bin with count := 0 }

/-- RESTOCK (R13). -/
def Lane.restockRequest (l : Lane) (h : Sender) (target : Byte) (count denomination : Nat) : Lane :=
  l.supervised h kindRestock fun l =>
    let n := target.toNat
    let d := if denomination = 0 then none else some denomination
    if l.sup.service ≠ .closed ∨ 4 < n then l.reply h kindRestock .state
    else if n = 4 then l.restockBin h count d
    else l.restockPosition h (Fin.ofNat 4 n) count d

/-- The presence sensor's reading of a position. -/
def Lane.setPresent (l : Lane) (i : Position) (present : Bool) : Lane :=
  { l with cass := { l.cass with present := l.cass.present.set i present } }

/-- A removal (R10); a payout may lose the position (R43). -/
def Lane.cassetteRemoved (l : Lane) (i : Position) : Lane :=
  let l := l.setPresent i false
  let c := l.cass.entry.get i
  if !l.setupDone || c.mode = CassMode.unused || c.state = CassState.out then l
  else (l.setCassette i { c with state := .out, cause := some .removed }).checkLost

/-- An insertion (R10). -/
def Lane.cassetteInserted (l : Lane) (i : Position) : Lane :=
  let l := l.setPresent i true
  let c := l.cass.entry.get i
  if !l.setupDone || c.mode = CassMode.unused || c.state ≠ CassState.out then l
  else l.setCassette i { c with state := .suspect }

/-- INVENTORY (R15). -/
def execInventory (h : Sender) (selector : Byte) (s : State) : Host.Outcome State Fault Refusal :=
  s.onLane (fun l => l.take h (fun l => l.inventoryRequest h selector))

/-- RESTOCK (R13). -/
def execRestock (h : Sender) (target : Byte) (count denomination : Nat) (s : State) :
    Host.Outcome State Fault Refusal :=
  s.onLane (fun l => l.take h (fun l => l.restockRequest h target count denomination))

/-- CASSETTE_REMOVAL (R10). -/
def execCassetteRemoval (i : Position) (s : State) : Host.Outcome State Fault Refusal :=
  s.onLane (fun l => (l.cassetteRemoved i).settleRun)

/-- CASSETTE_INSERTION (R10). -/
def execCassetteInsertion (i : Position) (s : State) : Host.Outcome State Fault Refusal :=
  s.onLane (fun l => l.cassetteInserted i)

end Sys2Proof.Machine
end

