-- ==== Sys2Proof/Machine/DealDrawer.lean ====
section
/-! DEFINITION. DealDrawer: the sensors and timers of the deal drawer (R59, R60, R63, R65, R67 to R70). -/

namespace Sys2Proof.Machine

/-- The position in which the drawer rests at an end. -/
def endRest : DrawerEnd → DrawerPosition
  | .home => .home
  | .out => .out

/-- The driver that brings a pushed drawer back to an end (R67). -/
def endDriver : DrawerEnd → Driver
  | .home => .drawerIn
  | .out => .drawerOut

/-- A re-drive to this end is in progress: at rest there, with the travel timer running (R67). -/
def Drawer.redriven (d : Drawer) (e : DrawerEnd) : Bool :=
  d.movement.isNone && d.travel.isSome && d.position == endRest e

/-- An end sensor reports arrival (R59, R67). An arrival at HOME in homing's step 1 is that of the HOMING run,
which then starts and ends at once (log entry 6). -/
def Lane.endArrival (l : Lane) (e : DrawerEnd) : Lane :=
  let l : Lane := { l with drawer := { l.drawer with atEnd := some e } }
  if l.homesIn .module && e == .home then l.drawerStep
  else
    match l.runEnds e with
    | some m => l.arrive m
    | none =>
      if l.drawer.redriven e then
        let l := l.command (endDriver e) false
        ({ l with drawer := { l.drawer with travel := none } } : Lane).drawerFreed
      else l

/-- The travel timer expires (R60, R67, R72, R73). -/
def Lane.travelExpired (l : Lane) : Lane :=
  if l.drawer.travel.isNone then l
  else if l.drawer.movement = some .clear then l.clearingFailed
  else l.jamDrawer

/-- The drawer at rest at this end is driven back to it (R67). -/
def Lane.redrive (l : Lane) (e : DrawerEnd) : Lane :=
  let l := l.command (endDriver e) true
  { l with drawer := { l.drawer with travel := l.timer Config.travelTime } }

/-- Lockdown forbids a re-drive outward, but for a payout's cash under drawer policy LEAVE (R67). -/
def Lane.redriveBarred (l : Lane) : Bool :=
  l.locked && !(l.drawer.contents == .cash && l.settings.policy == .leave)

/-- An end sensor stops reporting arrival (R67). -/
def Lane.sensorLost (l : Lane) (e : DrawerEnd) : Lane :=
  if l.drawer.atEnd = some e then
    let l : Lane := { l with drawer := { l.drawer with atEnd := none } }
    if l.drawer.position = endRest e ∧ l.drawer.atRest = true then
      match e with
      | .home => l.redrive .home
      | .out => if l.redriveBarred then l.retractOwn else l.redrive .out
    else l
  else l

/-- The tray sensor reports a reading (R58, R63). -/
def Lane.trayReading (l : Lane) (occupied : Bool) : Lane :=
  if l.drawer.tray = occupied then l
  else
    ({ l with drawer := { l.drawer with tray := occupied, traySince := l.clock } } : Lane).startFilters

/-- The take filter runs out (R65). -/
def Lane.takeFiltered (l : Lane) : Lane :=
  if l.drawer.takeFilter.isSome then l.takeDecided.settleRun else l

/-- The take timer expires (R65). -/
def Lane.takeExpired (l : Lane) : Lane :=
  if l.drawer.take.isSome then l.retractOwn.settleRun else l

/-- The placement filter runs out (R68). -/
def Lane.placed (l : Lane) : Lane :=
  if l.drawer.placementFilter.isSome then
    (({ l with drawer := { l.drawer with contents := .customer } } : Lane).startRun .retract).settleRun
  else l

/-- The wait timer expires (R68). -/
def Lane.waitExpired (l : Lane) : Lane :=
  if l.drawer.wait.isSome then (l.startRun .retract).settleRun else l

/-- END_SENSOR_ARRIVAL (R59). -/
def execEndSensorArrival (e : DrawerEnd) (s : State) : Host.Outcome State Fault Refusal :=
  s.onLane (fun l => l.endArrival e)

/-- TRAVEL_TIMER_EXPIRY (R60). -/
def execTravelTimerExpiry (s : State) : Host.Outcome State Fault Refusal := s.onLane Lane.travelExpired

/-- DRAWER_SENSOR_LOST (R67). -/
def execDrawerSensorLost (e : DrawerEnd) (s : State) : Host.Outcome State Fault Refusal :=
  s.onLane (fun l => l.sensorLost e)

/-- TRAY_SENSOR_CHANGE (R63). -/
def execTraySensorChange (occupied : Bool) (s : State) : Host.Outcome State Fault Refusal :=
  s.onLane (fun l => l.trayReading occupied)

/-- TAKE_FILTER_EXPIRY (R65). -/
def execTakeFilterExpiry (s : State) : Host.Outcome State Fault Refusal := s.onLane Lane.takeFiltered

/-- TAKE_TIMER_EXPIRY (R65). -/
def execTakeTimerExpiry (s : State) : Host.Outcome State Fault Refusal := s.onLane Lane.takeExpired

/-- PLACEMENT_FILTER_EXPIRY (R68). -/
def execPlacementFilterExpiry (s : State) : Host.Outcome State Fault Refusal := s.onLane Lane.placed

/-- WAIT_TIMER_EXPIRY (R68). -/
def execWaitTimerExpiry (s : State) : Host.Outcome State Fault Refusal := s.onLane Lane.waitExpired

/-- The transport reports the tray exhausted (R69, R73). -/
def Lane.trayEmptied (l : Lane) : Lane :=
  let l := l.moduleOver
  if l.drawer.counting then l.trayExhausted.settleRun else l

/-- RETRACT_TRAY_EXHAUSTED (R69). -/
def execRetractTrayExhausted (s : State) : Host.Outcome State Fault Refusal := s.onLane Lane.trayEmptied

end Sys2Proof.Machine
end

