-- ==== Sys2Proof/Machine/Payouts.lean ====
section
/-! DEFINITION. Payouts: the commands of the payout controller and the transport controller (chapter 3, R8,
R40 to R48, R69, R190). -/

namespace Sys2Proof.Machine

/-- The mix modes by code (R31, R196). -/
def mixModeOf (code : Byte) : Option MixMode :=
  if code = 0#8 then some .fewest else if code = 1#8 then some .spread else none

/-- The lane as though an undecided payout had already been superseded (R33). -/
def Lane.asSuperseded (l : Lane) : Lane :=
  match l.payout with
  | none => l
  | some p =>
    let reserved := l.journal.reserved - p.slots
    { l with
      payout := none
      journal := { l.journal with
        reserved := reserved
        state := if l.journal.state.works then journalStateOf l.journal.free reserved else l.journal.state } }

/-- A PAYOUT finds the lane occupied (R33). -/
def Lane.payoutBusy (l : Lane) : Bool :=
  l.intake.isSome || (match l.payout with | none => false | some p => !p.undecided)

/-- A mechanism or driver that a PAYOUT needs is faulted (R33). -/
def Lane.payoutBarred (l : Lane) : Bool :=
  l.holdupTrouble || l.latchedFault .silentRelay || l.drawerDriverFault || l.drawer.position == .jammed

/-- The record of a payout at its admission (R34). -/
def Payout.staged (h : Sender) (amount : Nat) (mode : MixMode) (m : Mix) : Payout where
  tag := h.tag
  console := h.source
  amount := amount
  mode := mode
  mix := m
  drawn := Four.replicate 0
  stackedNotes := 0
  stackedValue := 0
  diverted := 0
  binned := 0
  recallPending := false
  state := .staged
  outcome := none
  slots := 2

/-- A PAYOUT that passes its tests is admitted to STAGED (R34, R35). -/
def Lane.admitPayout (l : Lane) (h : Sender) (amount : Nat) (mode : MixMode) (m : Mix) : Lane :=
  let l := (l.dropUndecided .superseded).reserve 2
  ({ l with payout := some (Payout.staged h amount mode m) } : Lane).sendOwned (.claim .cash amount) h.tag

/-- The owning tests of PAYOUT (R33). -/
def Lane.payoutRequest (l : Lane) (h : Sender) (amount : Nat) (code : Byte) : Lane :=
  l.attending h kindPayout fun l =>
    let no := l.reply h kindPayout
    match mixModeOf code with
    | none => no .malformed
    | some mode =>
      if l.sup.service ≠ .opened then no .state
      else if l.locked then no .locked
      else if l.offLine then no .line
      else if l.payoutBusy then no .busy
      else if amount = 0 ∨ l.settings.cap < amount then no .range
      else if l.payoutBarred then no .unavailable
      else
        match firstMix l.cass.entry l.settings.cap amount mode with
        | .range => no .range
        | .noMix => no .noMix
        | .mix m =>
          if l.binFree < m.total + Config.divertLimit then no .unavailable
          else if l.asSuperseded.canReserve 2 then l.admitPayout h amount mode m
          else no .journal

/-- RECALL by the payout's state (R53). -/
def Lane.recallRequest (l : Lane) (h : Sender) : Lane :=
  l.attending h kindRecall fun l =>
    let answer := l.reply h kindRecall
    match l.payout with
    | none => answer .state
    | some p =>
      if p.tag ≠ h.tag then answer .state
      else
        match p.state with
        | .staged | .claiming => (answer .done).endUndecided p .state
        | .picking | .bundled => (answer .accepted).purge p .recalled
        | .presenting =>
          if p.recallPending then answer .busy
          else { (answer .accepted) with payout := some { p with recallPending := true } }
        | .presented => ((answer .accepted).retractPayout p).settleRun
        | .retracting | .purging | .jammed => answer .busy

/-- The notes of a position now in the note path. -/
def Transport.inPath (t : Transport) (i : Position) : Nat :=
  (t.path.filter (fun n => n.position == i)).length

/-- The entry the next pick is made from (R40). -/
def Transport.nextPick (t : Transport) : Option PickEntry :=
  if t.halted || Config.pathLimit ≤ t.path.length then none
  else t.pickList.find? (fun e => t.inPath e.position < e.quota)

/-- After a pick or a result: a position may be lost, and the note path may be empty (R40, R43, R46). -/
def Lane.progress (l : Lane) : Lane :=
  let l := l.checkLost
  match l.payout with
  | some p => l.drained p
  | none => l

/-- A pick is made (R3, R40). -/
def Lane.makePick (l : Lane) : Lane :=
  match l.payout, l.transport.nextPick with
  | some p, some e =>
    if p.state = .picking then
      let n := l.transport.pickNumber + 1
      let i := e.position
      let l : Lane := { l with
        payout := some { p with drawn := p.drawn.modify i (· + 1) }
        transport := { l.transport with
          path := l.transport.path ++ [{ position := i, pickNumber := n }], pickNumber := n } }
      (l.setCassette i (l.cass.entry.get i).picked).checkLost
    else l
  | _, _ => l

/-- The quota of a position falls by one; at 0 the entry leaves the list (R40, R41). -/
def lowerQuota (i : Position) (list : List PickEntry) : List PickEntry :=
  (list.map (fun e => if e.position = i then { e with quota := e.quota - 1 } else e)).filter
    (fun e => 0 < e.quota)

/-- A note joins the stacker bundle (R39, R41, R79, R89). -/
def Bundle.add (b : Bundle) (kind : BundleKind) (value : Nat) : Bundle :=
  { kind := kind, notes := b.notes + 1, value := b.value + value }

/-- A note leaves the stacker bundle; an empty bundle is EMPTY (R46). -/
def Bundle.takeOne (b : Bundle) : Bundle :=
  if b.notes ≤ 1 then Bundle.empty else { b with notes := b.notes - 1 }

/-- The notes of a check result are asked into the bin one by one (R8, R41): the lane and payout after the
accepted ones, and whether one was refused. -/
def Lane.divert (l : Lane) (p : Payout) : Nat → Lane × Payout × Bool
  | 0 => (l, p, false)
  | n + 1 =>
    match l.binAccept with
    | none => (l, p, true)
    | some l' => l'.divert { p with diverted := p.diverted + 1, binned := p.binned + 1 } n

/-- After a result that sends `n` notes to the bin: a refusal ends the payout, more than 8 diverted notes
fail it (R41, R42, R48). -/
def Lane.diverted (l : Lane) (p : Payout) (n : Nat) : Lane :=
  let r := l.divert p n
  let l := r.1
  let p := r.2.1
  if r.2.2 then l.payoutBinRefused p
  else if Config.divertLimit < p.diverted ∧ p.state = .picking then l.purge p .failedRejects
  else ({ l with payout := some p } : Lane).progress

/-- The payout and the oldest note of its path, while results are taken (R41, R46). -/
def Lane.oldestNote (l : Lane) : Option (Payout × PathNote × List PathNote) :=
  match l.payout, l.transport.path with
  | some p, n :: rest => if p.state = .picking ∨ p.state = .purging then some (p, n, rest) else none
  | _, _ => none

/-- The note path without its oldest note. -/
def Lane.withPath (l : Lane) (rest : List PathNote) : Lane :=
  { l with transport := { l.transport with path := rest } }

/-- A check result that brought a note (R3, R4, R41). -/
def Lane.checked (l : Lane) (r : CheckOutcome) : Lane :=
  match l.oldestNote with
  | none => l
  | some (p, n, rest) =>
    let i := n.position
    let c := l.cass.entry.get i
    let l := l.withPath rest
    match r with
    | .good =>
      let value := c.denomination.getD 0
      let l : Lane := { l with
        payout := some { p with stackedNotes := p.stackedNotes + 1, stackedValue := p.stackedValue + value }
        transport := { l.transport with
          stacker := l.transport.stacker.add .cash value
          pickList := lowerQuota i l.transport.pickList } }
      (l.setCassette i c.good).progress
    | .reject => (l.setCassette i c.rejected).diverted p 1
    | .double =>
      (l.setCassette i c.doubled).diverted { p with drawn := p.drawn.modify i (· + 1) } 2

/-- A check result MISS (R3, R4, R41). -/
def Lane.missed (l : Lane) : Lane :=
  match l.oldestNote with
  | none => l
  | some (p, n, rest) =>
    let i := n.position
    let l : Lane := { (l.withPath rest) with payout := some { p with drawn := p.drawn.modify i (· - 1) } }
    (l.setCassette i (l.cass.entry.get i).missed).progress

/-- The bin has room for a remix (R44). -/
def Lane.remixFits (l : Lane) (p : Payout) (m : Mix) : Bool :=
  p.stackedNotes + m.total + (Config.divertLimit - p.diverted) ≤ l.binFree

/-- The mix unit answers a remix (R44). -/
def Lane.remixAnswered (l : Lane) : Lane :=
  match l.payout, l.transport.remix with
  | some p, some answer =>
    if p.state = .picking ∧ l.transport.path = [] then
      match answer with
      | .mix m =>
        if l.remixFits p m then
          ({ l with transport := { l.transport with
              pickList := m.pickList, halted := false, lost := none, remix := none } } : Lane).checkLost
        else l.purge p .failedShort
      | .range | .noMix => l.purge p .failedShort
    else l
  | _, _ => l

/-- A transport jam (R5, R45, R70, R91, R190). -/
def Lane.jam (l : Lane) (at_ : Option Position) : Lane :=
  let l := match at_ with
    | none => l
    | some i => l.setCassette i ((l.cass.entry.get i).fail .jam)
  if l.drawer.counting then l.countStopped true
  else if l.homes then l.homingJam
  else
    match l.payout, l.intake with
    | some p, _ => if p.state = .picking ∨ p.state = .purging then l.payoutJammed p else l
    | none, some i =>
      if i.state = .feeding ∨ i.state = .keeping ∨ (i.state = .givingBack ∧ i.escrow ≠ []) then
        (l.stopIntake i 0).raise (fun c => { c with transportModule := true })
      else l
    | none, none => l

/-- The tray's count offers a note to the bin (R69, R70, R73). -/
def Lane.trayDelivery (l : Lane) : Lane :=
  match l.binAccept with
  | some l' =>
    let l' : Lane := { l' with drawer := { l'.drawer with counted := l'.drawer.counted + 1 } }
    if l.homes then l'.homingCount (fun h => { h with trayNotes := h.trayNotes + 1 }) else l'
  | none => l.countStopped false

/-- A purge offers a note of the stacker to the bin (R46, R48). -/
def Lane.purgeDelivery (l : Lane) : Lane :=
  match l.payout with
  | none => l
  | some p =>
    if p.state = .purging ∧ l.transport.path = [] ∧ l.transport.stacker.notes ≠ 0 then
      match l.binAccept with
      | none => l.payoutBinRefused p
      | some l' =>
        let b := l'.transport.stacker.takeOne
        let p := { p with binned := p.binned + 1, stackedNotes := b.notes, stackedValue := b.value }
        ({ l' with transport := { l'.transport with stacker := b } } : Lane).purgeIfDone p
    else l

/-- The tray's count takes a note while it runs and has counted fewer than the 100 the tray holds. A CASH tray
that delivers more notes than were presented, which R69 rules out, is still counted note by note (DESIGN
CHOICE, log entry 4). -/
def Lane.countDelivery (l : Lane) : Lane :=
  if l.drawer.counting && l.drawer.counted < Config.trayLimit then l.trayDelivery else l

/-- The transport offers a note to the purge bin (R8). -/
def Lane.delivery (l : Lane) (source : NoteSource) : Lane :=
  match source with
  | .tray => l.moduleOver.countDelivery
  | .notePath | .escrow => l.homingDelivery source
  | .stacker => if l.homes then l.homingDelivery source else l.purgeDelivery

/-- PAYOUT (R33). -/
def execPayout (h : Sender) (amount : Nat) (mixMode : Byte) (s : State) :
    Host.Outcome State Fault Refusal :=
  s.onLane (fun l => l.take h (fun l => l.payoutRequest h amount mixMode))

/-- RECALL (R53). -/
def execRecall (h : Sender) (s : State) : Host.Outcome State Fault Refusal :=
  s.onLane (fun l => l.take h (fun l => l.recallRequest h))

/-- PICK (R40). -/
def execPick (s : State) : Host.Outcome State Fault Refusal := s.onLane Lane.makePick

/-- CHECK_RESULT (R41); what follows may start a drawer run (R49). -/
def execCheckResult (r : CheckOutcome) (s : State) : Host.Outcome State Fault Refusal :=
  s.onLane (fun l => (l.checked r).settleRun)

/-- CHECK_MISS (R41). -/
def execCheckMiss (s : State) : Host.Outcome State Fault Refusal :=
  s.onLane (fun l => l.missed.settleRun)

/-- REMIX_ANSWER (R44). -/
def execRemixAnswer (s : State) : Host.Outcome State Fault Refusal :=
  s.onLane (fun l => l.remixAnswered.settleRun)

/-- TRANSPORT_JAM (R45). -/
def execTransportJam (pickPoint : Option Position) (s : State) : Host.Outcome State Fault Refusal :=
  s.onLane (fun l => l.jam pickPoint)

/-- BIN_NOTE_DELIVERY (R8). -/
def execBinNoteDelivery (source : NoteSource) (s : State) : Host.Outcome State Fault Refusal :=
  s.onLane (fun l => l.delivery source)

end Sys2Proof.Machine
end

