-- ==== Sys2Proof/Machine/Deposits.lean ====
section
/-! DEFINITION. Deposits: the commands of the intake controller: INTAKE, KEEP, GIVEBACK, the feeder, the
stacking and the escrow timer (chapter 5). -/

namespace Sys2Proof.Machine

/-! ### INTAKE (R76, R77) -/

/-- The drawer is jammed or one of its drivers holds a latched fault (R76, R88). -/
def Lane.drawerBarred (l : Lane) : Bool := l.drawer.position == .jammed || l.drawerDriverFault

/-- The record of an intake at its admission (R77). -/
def Intake.admitted (h : Sender) (maximum : Nat) : Intake where
  tag := h.tag
  console := h.source
  maximum := maximum
  state := .receiving
  returned := 0
  suspect := 0
  uncollected := 0
  trayLeft := false
  presentDeferred := false
  presentMade := false
  timer := .stopped
  escrow := []
  plan := []
  keptNotes := Four.replicate 0
  keptValue := Four.replicate 0
  keptCount := 0
  keptTotal := 0
  givebackNotes := 0
  cause := .request
  jammedFrom := none
  slots := 3

/-- An INTAKE that passes its tests is admitted (R77). -/
def Lane.admitIntake (l : Lane) (h : Sender) (maximum : Nat) : Lane :=
  let l := l.reserve 3
  let l : Lane := { l with intake := some (Intake.admitted h maximum) }
  ((l.grant ⟨.intake, h.tag⟩).receive.reply h kindIntake .accepted).settleRun

/-- INTAKE (R76). While the escrow and the intake share one record, no intake in progress means an empty
escrow list. -/
def Lane.intakeRequest (l : Lane) (h : Sender) (code : Byte) : Lane :=
  l.attending h kindIntake fun l =>
    let no := l.reply h kindIntake
    let maximum := min Config.bundleLimit code.toNat
    if maximum = 0 then no .range
    else if l.sup.service ≠ .opened then no .state
    else if l.locked then no .locked
    else if l.payout.isSome || l.intake.isSome then no .busy
    else if l.drawerBarred then no .unavailable
    else if !l.drawer.free then no .busy
    else if l.transport.stacker.kind ≠ .empty then no .unavailable
    else if l.binFree < Config.trayLimit then no .unavailable
    else if !l.canReserve 3 then no .journal
    else l.admitIntake h maximum

/-! ### Feeding (R79 to R81) -/

/-- The pause test before each take (R80). -/
def Lane.feedPaused (l : Lane) (i : Intake) : Bool :=
  i.maximum ≤ i.escrow.length || Config.bundleLimit ≤ l.transport.stacker.notes

/-- A note goes to the escrow list's newest end (R75, R79). -/
def Lane.toEscrow (l : Lane) (i : Intake) (n : EscrowNote) : Lane :=
  { l with intake := some { i with escrow := i.escrow ++ [n] } }

/-- A note goes to the stacker as a return, with no value (R79). -/
def Lane.toReturns (l : Lane) (i : Intake) : Lane :=
  { l with
    intake := some { i with returned := i.returned + 1 }
    transport := { l.transport with stacker := l.transport.stacker.add .returned 0 } }

/-- A note goes to the bin as suspect; a refusal stops the intake (R79, R91). -/
def Lane.toSuspect (l : Lane) (i : Intake) : Lane :=
  match l.binAccept with
  | some l' => { l' with intake := some { i with suspect := i.suspect + 1 } }
  | none => (l.stopIntake i 0).raise (fun c => { c with purgeModule := true })

/-- A note taken from the tray reaches the destination of its class (R79). -/
def Lane.route (l : Lane) (i : Intake) (r : HeadReport) : Lane :=
  match r with
  | .note index fit =>
    if (l.listValue index).isSome then l.toEscrow i ⟨index, fit⟩ else l.toReturns i
  | .unknown => l.toReturns i
  | .suspect => l.toSuspect i

/-- The feeder takes a note, or pauses before it (R79, R80). -/
def Lane.feed (l : Lane) (r : HeadReport) : Lane :=
  match l.intake with
  | none => l
  | some i =>
    if i.state = .feeding then
      if l.feedPaused i then l.endFeeding i true else l.route i r
    else l

/-- The feeder finds the tray exhausted (R63, R79, R81). -/
def Lane.feedExhausted (l : Lane) : Lane :=
  match l.intake with
  | none => l
  | some i =>
    if i.state = .feeding then
      ({ l with drawer := { l.drawer with contents := .empty } } : Lane).endFeeding i i.trayLeft
    else l

/-! ### KEEP (R85 to R87) -/

/-- The intake with this tag, HELD (R85, R88). -/
def Lane.heldIntake (l : Lane) (tag : Tag) : Option Intake :=
  match l.intake with
  | none => none
  | some i => if i.tag = tag ∧ i.state = .held then some i else none

/-- A slot of the intake's reservation, or a new one, for the record of its escrow (R85, R88, R94). -/
def Lane.escrowSlot (l : Lane) (i : Intake) : Bool := i.slots != 0 || l.canReserve 1

/-- The slot is taken: the intake's own, or a new reservation of one (R94). -/
def Lane.takeEscrowSlot (l : Lane) (i : Intake) : Lane × Intake :=
  if i.slots = 0 then (l.reserve 1, { i with slots := 1 }) else (l, i)

/-- KEEP (R85); a NOTICE JOURNAL of its new reservation is queued before the REPLY (log entry 23). -/
def Lane.keepRequest (l : Lane) (h : Sender) : Lane :=
  l.attending h kindKeep fun l =>
    let no := l.reply h kindKeep
    match l.heldIntake h.tag with
    | none => no .state
    | some i =>
      if !l.escrowSlot i then no .journal
      else
        match l.routingPlan i with
        | none => no .unavailable
        | some plan =>
          let r := l.takeEscrowSlot i
          let l := r.1
          let i := r.2
          ({ l with intake := some { i with
              state := .keeping, timer := .stopped, plan := plan } } : Lane).reply h kindKeep .accepted

/-- The KEEP is over: KEPT, ESCROW_END, and the end of the intake (R87). -/
def Lane.kept (l : Lane) (i : Intake) : Lane :=
  let r := l.joinIntake i (l.keptRecord i)
  let l := r.1
  let i := r.2
  (l.noticeTo (some i.console) i.tag (.escrowEnd .kept none i.keptCount i.keptTotal 0 0 0)).endIntake i

/-- The transport stacks the oldest escrow note (R6, R87). -/
def Lane.stackNote (l : Lane) : Lane :=
  match l.intake with
  | none => l
  | some i =>
    match i.escrow, i.plan with
    | n :: notes, p :: plan =>
      if i.state = .keeping then
        let c := l.cass.entry.get p
        let value := l.noteValue n
        let i := { i with
          escrow := notes
          plan := plan
          keptNotes := i.keptNotes.modify p (· + 1)
          keptValue := if c.mode = CassMode.deposit then i.keptValue.modify p (· + value) else i.keptValue
          keptCount := i.keptCount + 1
          keptTotal := i.keptTotal + value }
        let l := ({ l with intake := some i } : Lane).setCassette p (c.stacked value)
        if notes.isEmpty then l.kept i else l
      else l
    | _, _ => l

/-! ### GIVEBACK (R88, R89) -/

/-- The tests of a giveback from the third onward: the code of the first that fails (R88). -/
def Lane.givebackRefused (l : Lane) (i : Intake) : Option ReplyCode :=
  if l.locked then some .locked
  else if l.drawerBarred then some .unavailable
  else if !l.drawer.free || l.transport.stacker.kind != .empty then some .busy
  else if !l.escrowSlot i then some .journal
  else none

/-- The giveback begins (R88, R89). -/
def Lane.beginGiveback (l : Lane) (i : Intake) (cause : GivebackCause) : Lane :=
  let r := l.takeEscrowSlot i
  let l := r.1
  let i := r.2
  { l with intake := some { i with
      state := .givingBack, timer := .stopped, cause := cause, givebackNotes := i.escrow.length,
      presentMade := false } }

/-- GIVEBACK (R88). The REPLY is queued before a NOTICE JOURNAL that a new reservation causes; KEEP and INTAKE
queue that notice first (DESIGN CHOICE, log entry 23: R88 and R123 give the two frames no order). -/
def Lane.givebackRequest (l : Lane) (h : Sender) : Lane :=
  l.attending h kindGiveback fun l =>
    match l.heldIntake h.tag with
    | none => l.reply h kindGiveback .state
    | some i =>
      match l.givebackRefused i with
      | some code => l.reply h kindGiveback code
      | none => (l.reply h kindGiveback .accepted).beginGiveback i .request

/-- The escrow timer expires (R88). -/
def Lane.escrowExpired (l : Lane) : Lane :=
  match l.intake with
  | none => l
  | some i =>
    match i.state, i.timer with
    | .held, .running _ =>
      match l.givebackRefused i with
      | some _ => { l with intake := some { i with timer := l.escrowStart } }
      | none => l.beginGiveback i .timeout
    | _, _ => l

/-- The transport moves the oldest escrow note to the stacker; after the last the present is asked
(R89). -/
def Lane.moveNote (l : Lane) : Lane :=
  match l.intake with
  | none => l
  | some i =>
    match i.escrow with
    | [] => l
    | _ :: notes =>
      if i.state = .givingBack then
        let i := { i with escrow := notes }
        let l : Lane := { l with
          intake := some i
          transport := { l.transport with stacker := l.transport.stacker.add .returned 0 } }
        if notes.isEmpty then l.askGiveback i else l
      else l

/-! ### The commands -/

/-- INTAKE (R76). -/
def execIntake (h : Sender) (maximum : Byte) (s : State) : Host.Outcome State Fault Refusal :=
  s.onLane (fun l => l.take h (fun l => l.intakeRequest h maximum))

/-- KEEP (R85). -/
def execKeep (h : Sender) (s : State) : Host.Outcome State Fault Refusal :=
  s.onLane (fun l => l.take h (fun l => l.keepRequest h))

/-- GIVEBACK (R88). -/
def execGiveback (h : Sender) (s : State) : Host.Outcome State Fault Refusal :=
  s.onLane (fun l => l.take h (fun l => l.givebackRequest h))

/-- ESCROW_TIMER_EXPIRY (R88). -/
def execEscrowTimerExpiry (s : State) : Host.Outcome State Fault Refusal := s.onLane Lane.escrowExpired

/-- NOTE_FED (R79); what follows may present the returns (R82). -/
def execNoteFed (report : HeadReport) (s : State) : Host.Outcome State Fault Refusal :=
  s.onLane (fun l => (l.feed report).settleRun)

/-- FEEDER_TRAY_EXHAUSTED (R79). -/
def execFeederTrayExhausted (s : State) : Host.Outcome State Fault Refusal :=
  s.onLane (fun l => l.feedExhausted.settleRun)

/-- ESCROW_NOTE_STACKED (R87). -/
def execEscrowNoteStacked (s : State) : Host.Outcome State Fault Refusal := s.onLane Lane.stackNote

/-- GIVEBACK_NOTE_MOVED (R89). -/
def execGivebackNoteMoved (s : State) : Host.Outcome State Fault Refusal :=
  s.onLane (fun l => l.moveNote.settleRun)

end Sys2Proof.Machine
end

