-- ==== Sys2Proof/Machine/Envelopes.lean ====
section
/-! DEFINITION. Envelopes: the commands of the envelope controller: SLOT, the gate and the capture, and the
safe service (chapter 6). -/

namespace Sys2Proof.Machine

/-! ### SLOT (R99, R100) -/

/-- A SLOT that passes its tests is admitted to STAGED, and its PLACE claim is queued (R100). -/
def Lane.admitSlot (l : Lane) (h : Sender) : Lane :=
  let l := l.reserve 1
  let record : EnvelopeRecord :=
    { tag := h.tag, console := h.source, abandoned := false, faultAtEnd := false, serial := none }
  ({ l with envelope := { l.envelope with
      path := .staged, record := some record, slotTimer := none, entryFilter := none,
      dropTimer := none } } : Lane).sendOwned (.claim .place 1) h.tag

/-- SLOT (R99). -/
def Lane.slotRequest (l : Lane) (h : Sender) : Lane :=
  l.attending h kindSlot fun l =>
    let no := l.reply h kindSlot
    if l.sup.service ≠ .opened then no .state
    else if l.locked then no .locked
    else if l.offLine then no .line
    else if l.envelope.path = .fault then no .unavailable
    else if l.envelope.path ≠ .idle then no .busy
    else if l.envelope.service.isSome then no .state
    else if l.peerUnknown then no .state
    else if !l.canReserve 1 then no .journal
    else l.admitSlot h

/-! ### The gate and the capture (R102, R103) -/

/-- The entry sensor reports an envelope at the gate, or clears (R102). -/
def Lane.entryReading (l : Lane) (reports : Bool) : Lane :=
  let filter : Timer :=
    if l.envelope.path = .opened then
      if !reports then none
      else if l.envelope.entryFilter.isSome then l.envelope.entryFilter
      else l.timer Config.entryFilterTime
    else l.envelope.entryFilter
  { l with envelope := { l.envelope with entry := reports, entryFilter := filter } }

/-- The gate closes on an envelope: the capture begins (R97, R103). -/
def Lane.beginCapture (l : Lane) (r : EnvelopeRecord) : Lane :=
  let l := (l.command .envGate false).command .imprint true
  let serial := nextSerial l.envelope.serial
  { l with envelope := { l.envelope with
      path := .capturing, record := some { r with serial := some serial }, serial := serial,
      held := true, slotTimer := none, entryFilter := none, dropTimer := l.timer Config.dropTime } }

/-- The entry filter runs out with the sensor still reporting (R102). -/
def Lane.entryFiltered (l : Lane) : Lane :=
  match l.envelope.record, l.envelope.path, l.envelope.entryFilter with
  | some r, .opened, some _ => l.beginCapture r
  | _, _, _ => l

/-- The slot timer expires first: no envelope (R102). -/
def Lane.slotExpired (l : Lane) : Lane :=
  match l.envelope.record, l.envelope.path, l.envelope.slotTimer with
  | some r, .opened, some _ => l.closeSlot r .noEnvelope none .idle
  | _, _, _ => l

/-- The capture ends, CONFIRMED or UNCONFIRMED: the ENVELOPE record joins under the reservation, the NOTICE
goes out, and the record is discarded (R103, R104). -/
def Lane.endCapture (l : Lane) (r : EnvelopeRecord) (confirmed : Bool) : Lane :=
  let serial := r.serial.getD 0
  let l := (l.command .imprint false).joinReserved (.envelope serial confirmed)
  let path := if confirmed then pathAtEnd r.faultAtEnd else .fault
  let l : Lane := { l with envelope := { l.envelope with
    record := none, path := path, dropTimer := none, held := !confirmed } }
  l.noticeTo (some r.console) r.tag
    (.envelopeEnd (if confirmed then .captured else .unconfirmed) none (some (l.sup.lane, serial)))

/-- The drop sensor reports, or the drop timer expires, during a capture or at homing (R98, R103). -/
def Lane.dropEnds (l : Lane) (reported : Bool) : Lane :=
  match l.envelope.record, l.envelope.path with
  | some r, .capturing => l.endCapture r reported
  | _, _ =>
    if l.homesIn .escrow || l.homesIn .envelope then l.homingDrop reported else l.dropSeen reported

/-! ### Safe service (R106 to R110) -/

/-- SAFE_OPEN (R107). -/
def Lane.safeOpenRequest (l : Lane) (h : Sender) : Lane :=
  l.supervised h kindSafeOpen fun l =>
    let no := l.reply h kindSafeOpen
    if !l.settings.safeLane then no .state
    else if !l.setupDone then no .state
    else if l.envelope.phase ≠ .noService then no .busy
    else if l.locked then no .locked
    else if l.muted then no .line
    else
      let l : Lane := { l with envelope := { l.envelope with phase := .beginning } }
      l.strobeSettle.sendOwned (.serviceBegin true) h.tag

/-- An EMPTIED or END_NO_EMPTY of this lane (R109). -/
def TxFrame.endsService (f : TxFrame) : Bool :=
  match f.body with
  | .emptied _ | .serviceEnd _ => true
  | _ => false

/-- The epoch after this one (R109). -/
def nextEpoch (epoch : Nat) : Nat := if epoch = 65535 then 1 else epoch + 1

/-- SAFE_CLOSE (R109). -/
def Lane.safeCloseRequest (l : Lane) (h : Sender) : Lane :=
  l.supervised h kindSafeClose fun l =>
    let no := l.reply h kindSafeClose
    if !l.settings.safeLane then no .state
    else
      match l.envelope.phase with
      | .noService => no .state
      | .beginning | .doorOpen => no .busy
      | .begun =>
        if l.bus.queue.any TxFrame.endsService then no .busy
        else if l.muted then no .line
        else l.sendOwned (.serviceEnd true) h.tag
      | .doorClosed =>
        if l.bus.queue.any TxFrame.endsService then no .busy
        else if l.muted then no .line
        else l.sendOwned (.emptied (nextEpoch l.envelope.epoch)) h.tag

/-! ### The commands -/

/-- SLOT (R99). -/
def execSlot (h : Sender) (s : State) : Host.Outcome State Fault Refusal :=
  s.onLane (fun l => l.take h (fun l => l.slotRequest h))

/-- SAFE_OPEN (R107). -/
def execSafeOpen (h : Sender) (s : State) : Host.Outcome State Fault Refusal :=
  s.onLane (fun l => l.take h (fun l => l.safeOpenRequest h))

/-- SAFE_CLOSE (R109). -/
def execSafeClose (h : Sender) (s : State) : Host.Outcome State Fault Refusal :=
  s.onLane (fun l => l.take h (fun l => l.safeCloseRequest h))

/-- SAFE_SERVICE_BEGIN_HEARD (R106). -/
def execSafeServiceBeginHeard (source : Station) (s : State) : Host.Outcome State Fault Refusal :=
  s.onLane (fun l => l.heardFrom source (fun l => (l.stationHeard source).beginHeard source))

/-- SAFE_SERVICE_END_HEARD (R110). -/
def execSafeServiceEndHeard (source : Station) (s : State) : Host.Outcome State Fault Refusal :=
  s.onLane (fun l => l.heardFrom source (fun l => (l.stationHeard source).endHeard source))

/-- EMPTIED_HEARD (R110). -/
def execEmptiedHeard (source : Station) (epoch : Nat) (s : State) : Host.Outcome State Fault Refusal :=
  s.onLane (fun l => l.heardFrom source (fun l => (l.stationHeard source).emptiedHeard source epoch))

/-- ENTRY_SENSOR_CHANGE (R102). -/
def execEntrySensorChange (reports : Bool) (s : State) : Host.Outcome State Fault Refusal :=
  s.onLane (fun l => l.entryReading reports)

/-- ENTRY_FILTER_EXPIRY (R103). -/
def execEntryFilterExpiry (s : State) : Host.Outcome State Fault Refusal := s.onLane Lane.entryFiltered

/-- SLOT_TIMER_EXPIRY (R102). -/
def execSlotTimerExpiry (s : State) : Host.Outcome State Fault Refusal := s.onLane Lane.slotExpired

/-- DROP_SENSOR_REPORT (R103). -/
def execDropSensorReport (s : State) : Host.Outcome State Fault Refusal :=
  s.onLane (fun l => l.dropEnds true)

/-- DROP_TIMER_EXPIRY (R103). -/
def execDropTimerExpiry (s : State) : Host.Outcome State Fault Refusal :=
  s.onLane (fun l => l.dropEnds false)

end Sys2Proof.Machine
end

