-- ==== Sys2Proof/Machine/JournalUnit.lean ====
section
/-! DEFINITION. JournalUnit: the commands of the journal controller: JOURNAL, the journal line and the
cartridge presence sensor (R118, R124, R126, R127). -/

namespace Sys2Proof.Machine

/-- A slot the index counts: one whose record is not being programmed (R126). -/
def Lane.counted (l : Lane) (e : ScanEntry) : Bool :=
  !(l.journal.writePage == some e.page && l.journal.nextSlot ≤ e.slot)

/-- The used slots in logical order (R126). -/
def Lane.usedEntries (l : Lane) : List ScanEntry :=
  (walk false l.journal.cells).entries.filter l.counted

/-- The REPLY body of a JOURNAL read of one slot, or of an index beyond the end (R126, R196). -/
def Lane.readBody (l : Lane) (e : Option ScanEntry) : ReplyBody :=
  let j := l.journal
  let shown := match e with
    | none => (ReadStatus.beyondEnd, 0#128)
    | some e => (e.status, if e.status = ReadStatus.good ∨ e.status = ReadStatus.checkBad then e.value else 0#128)
  .journal shown.1 j.state j.free j.sparesUsed j.highest shown.2

/-- JOURNAL (R126). -/
def Lane.journalRequest (l : Lane) (h : Sender) (index : Nat) : Lane :=
  if l.sup.scanning || l.sup.testRun.isSome then l.reply h kindJournal .state
  else if !l.journal.state.works then l.reply h kindJournal .unavailable
  else l.reply h kindJournal .done (l.readBody l.usedEntries[index]?)

/-- The journal stops working: the write in progress stops where it stands, and a TEST's rescan fails
(R124, R130). DESIGN CHOICE, log entry 14: a line timeout or a removal at any time of a TEST run fails its step 5,
that of an operation of the write in progress before that step included; R130 and R194 do not say so of one that
comes before step 5. -/
def Lane.stopJournal (l : Lane) (st : JournalState) : Lane :=
  let l := l.interruptLine
  let l : Lane := if l.sup.testRun.isSome then { l with sup := { l.sup with testFault := true } } else l
  l.enterJournal st

/-- The line has no operation to leave unanswered: the journal is ABSENT, and no rescan of TEST reads a
cartridge that stands there (R124, R130). -/
def Lane.lineDead (l : Lane) : Bool :=
  l.journal.state == .absent && !(l.journal.present && l.sup.testRun.isSome)

/-- An operation on the journal line is not answered within 100 ms; in a rescan of TEST this fails step 5,
of an inserted cartridge too (R124, R127, R130). -/
def Lane.lineTimeout (l : Lane) : Lane :=
  if l.sup.scanning then l.scanBroken .fault
  else if l.lineDead then l
  else l.stopJournal .fault

/-- The cartridge is removed (R124, R127). -/
def Lane.cartridgeRemoved (l : Lane) : Lane :=
  if l.journal.present then
    let l : Lane := { l with journal := { l.journal with present := false } }
    if l.sup.scanning then l.scanBroken .absent else l.stopJournal .absent
  else l

/-- A cartridge is inserted where there was none: another one, or the one removed; the journal stays ABSENT
(R124). DESIGN CHOICE, log entry 14: one inserted while the start-up scan runs is the one that it scans. -/
def Lane.cartridgeInserted (l : Lane) (cells : Option (List Host.Cell)) : Lane :=
  if l.journal.present then l
  else
    { l with journal := { l.journal with
        present := true
        cells := match cells with | none => l.journal.cells | some c => Memory.canonical c } }

/-- JOURNAL (R126). -/
def execJournal (h : Sender) (index : Nat) (s : State) : Host.Outcome State Fault Refusal :=
  s.onLane (fun l => l.take h (fun l => l.journalRequest h index))

/-- JOURNAL_WRITE_START (R118). -/
def execJournalWriteStart (s : State) : Host.Outcome State Fault Refusal := s.onLane Lane.writeStart

/-- JOURNAL_LINE_ANSWER (R118). -/
def execJournalLineAnswer (seen : Option SlotBits) (s : State) : Host.Outcome State Fault Refusal :=
  s.onLane (fun l => l.lineAnswer seen)

/-- JOURNAL_LINE_TIMEOUT (R124). -/
def execJournalLineTimeout (s : State) : Host.Outcome State Fault Refusal := s.onLane Lane.lineTimeout

/-- CARTRIDGE_REMOVAL (R124). -/
def execCartridgeRemoval (s : State) : Host.Outcome State Fault Refusal := s.onLane Lane.cartridgeRemoved

/-- CARTRIDGE_INSERTION (R124). -/
def execCartridgeInsertion (cells : Option (List Host.Cell)) (s : State) :
    Host.Outcome State Fault Refusal :=
  s.onLane (fun l => l.cartridgeInserted cells)

end Sys2Proof.Machine
end

