-- ==== Sys2Proof/Machine/Supervision.lean ====
section
/-! DEFINITION. Supervision: the commands of the lane supervisor: resets, start-up, setup, LANE, TEST and
RESTART (chapter 12, R71, R72). -/

namespace Sys2Proof.Machine

/-- SETUP: the service state first, then the sender, then the item (R192). -/
def Lane.setupRequest (l : Lane) (h : Sender) (item selector : Byte) (value : BitVec 32) : Lane :=
  let no := l.reply h kindSetup
  if l.sup.service ≠ .setup then no .state
  else if l.sup.setupConsole.any (· != h.source) then no .notPermitted
  else
    match l.sup.pending.withItem item.toNat selector.toNat value.toNat with
    | none => no .malformed
    | some pending =>
      let base := if item.toNat = 25 then some (value.toNat, l.clock) else l.sup.wallBase
      ({ l with sup := { l.sup with
          pending := pending, setupConsole := some h.source, wallBase := base } } : Lane).reply
        h kindSetup .done

/-- SETUP_DONE (R192, R193). DESIGN CHOICE, log entry 21: the REPLY STATE to one outside SETUP has a body of zeros, a
check number of 0, since no check has failed; R196 gives the body of SETUP_DONE, STATE a check number of 1 to 6. -/
def Lane.setupDoneRequest (l : Lane) (h : Sender) : Lane :=
  let no := l.reply h kindSetupDone
  if l.sup.service ≠ .setup then no .state
  else if l.sup.setupConsole ≠ some h.source then no .notPermitted
  else
    match l.sup.pending.failedCheck with
    | some n => l.reply h kindSetupDone .state (.checkNumber n)
    | none => l.applySettings.reply h kindSetupDone .done

/-- The lane is open to LANE: CLOSED or OPEN (R194). -/
def Lane.serves (l : Lane) : Bool := l.sup.service == .closed || l.sup.service == .opened

/-- LANE with action OPEN (R154, R194). -/
def Lane.openRequest (l : Lane) (h : Sender) : Lane :=
  l.supervised h kindLane fun l =>
    let answer := l.reply h kindLane
    if !l.serves then answer .state
    else if l.locked then answer .locked
    else if l.sup.causes.any then answer .unavailable
    else if l.sup.service = .opened then answer .done
    else
      let l : Lane := { l with sup := { l.sup with service := .opened } }
      l.followLane.queueStatus.reply h kindLane .done

/-- LANE with action CLOSE (R194). -/
def Lane.closeRequest (l : Lane) (h : Sender) : Lane :=
  l.supervised h kindLane fun l =>
    if !l.serves then l.reply h kindLane .state else l.leaveOpen.reply h kindLane .done

/-- LANE with action NONE and no flag: DONE in CLOSED and OPEN, with no effect. R194 gives this request no answer of
its own (DESIGN CHOICE, log entry 10). -/
def Lane.noneRequest (l : Lane) (h : Sender) : Lane :=
  l.supervised h kindLane fun l => l.reply h kindLane (if l.serves then .done else .state)

/-- The owner of the drawer holds an unused reserved slot (R71). -/
def Lane.ownerSlot (l : Lane) : Bool :=
  match l.drawer.owner with
  | none => false
  | some ⟨.payout, _⟩ => l.payout.any (fun p => p.slots != 0)
  | some _ => l.intake.any (fun i => i.slots != 0)

/-- The clear-drawer flag (R71, R72). -/
def Lane.clearDrawer (l : Lane) (h : Sender) : Lane :=
  let answer := l.reply h kindLane
  let jammed := l.drawer.position == .jammed
  if l.sup.service ≠ .closed then answer .state
  else if !((jammed || (l.drawer.position == .home && l.drawer.contents == .retained)) && l.drawer.atRest) then
    answer .state
  else if jammed && l.latchedFault .drawerIn then answer .unavailable
  else if !(l.ownerSlot || l.canReserve 1) then answer .journal
  else
    let newSlot := !l.ownerSlot
    let l := if newSlot then l.reserve 1 else l
    let l : Lane := { l with sup := { l.sup with clearing := some { request := h, newSlot := newSlot } } }
    if jammed then (l.startRun .clear).settleRun else l.clearingDone.settleRun

/-- LANE with the clear-drawer flag: with OPEN it is MALFORMED, with CLOSE the close comes first (R71,
R194). -/
def Lane.clearDrawerRequest (l : Lane) (h : Sender) (action : LaneAction) : Lane :=
  l.supervised h kindLane fun l =>
    match action with
    | .openLane => l.reply h kindLane .malformed
    | .closeLane => l.leaveOpen.clearDrawer h
    | .noAction => l.clearDrawer h

/-- TEST (R194). -/
def Lane.testRequest (l : Lane) (h : Sender) : Lane :=
  l.supervised h kindTest fun l =>
    if l.sup.service ≠ .closed then l.reply h kindTest .state
    else if l.payout.isSome || l.intake.isSome || l.envelope.record.isSome || l.sup.clearing.isSome then
      l.reply h kindTest .busy
    else
      ({ l with sup := { l.sup with testRun := some h.tag, testFault := false } } : Lane).reply
        h kindTest .accepted

/-- RESTART (R195): the queue loss is whether records wait in the write queue (R128). -/
def Lane.restartRequest (l : Lane) (h : Sender) (inp : ResetInputs) : Lane :=
  l.supervised h kindRestart fun l =>
    if l.sup.service ≠ .closed then l.reply h kindRestart .state
    else l.resetWith inp .restart (!l.journal.queue.isEmpty)

/-- POWER_RESET (R188). -/
def execPowerReset (inp : ResetInputs) (s : State) : Host.Outcome State Fault Refusal :=
  s.onLane (fun l => l.resetWith inp .power true)

/-- LINE_RESET (R188). -/
def execLineReset (inp : ResetInputs) (s : State) : Host.Outcome State Fault Refusal :=
  s.onLane (fun l => l.resetWith inp .line true)

/-- JOURNAL_SCAN_COMPLETE (R127). -/
def execJournalScanComplete (s : State) : Host.Outcome State Fault Refusal := s.onLane Lane.scanComplete

/-- HOMING_COMPLETE (R190). -/
def execHomingComplete (s : State) : Host.Outcome State Fault Refusal := s.onLane Lane.homingComplete

/-- SETUP (R192). -/
def execSetup (h : Sender) (item selector : Byte) (value : BitVec 32) (s : State) :
    Host.Outcome State Fault Refusal :=
  s.onLane (fun l => l.take h (fun l => l.setupRequest h item selector value))

/-- SETUP_DONE (R193). -/
def execSetupDone (h : Sender) (s : State) : Host.Outcome State Fault Refusal :=
  s.onLane (fun l => l.take h (fun l => l.setupDoneRequest h))

/-- LANE, action OPEN (R194). -/
def execLaneOpen (h : Sender) (s : State) : Host.Outcome State Fault Refusal :=
  s.onLane (fun l => l.take h (fun l => l.openRequest h))

/-- LANE, action CLOSE (R194). -/
def execLaneClose (h : Sender) (s : State) : Host.Outcome State Fault Refusal :=
  s.onLane (fun l => l.take h (fun l => l.closeRequest h))

/-- LANE, action NONE (R194). -/
def execLaneNone (h : Sender) (s : State) : Host.Outcome State Fault Refusal :=
  s.onLane (fun l => l.take h (fun l => l.noneRequest h))

/-- LANE with the clear-drawer flag (R71). -/
def execLaneClearDrawer (h : Sender) (action : LaneAction) (s : State) :
    Host.Outcome State Fault Refusal :=
  s.onLane (fun l => l.take h (fun l => l.clearDrawerRequest h action))

/-- TEST (R194). -/
def execTest (h : Sender) (s : State) : Host.Outcome State Fault Refusal :=
  s.onLane (fun l => l.take h (fun l => l.testRequest h))

/-- TEST_COMPLETE (R194). -/
def execTestComplete (converter : Byte) (s : State) : Host.Outcome State Fault Refusal :=
  s.onLane (fun l => l.testComplete converter)

/-- RESTART (R195). -/
def execRestart (h : Sender) (inp : ResetInputs) (s : State) : Host.Outcome State Fault Refusal :=
  s.onLane (fun l => l.take h (fun l => l.restartRequest h inp))

end Sys2Proof.Machine
end

