-- ==== Sys2Proof/Machine/Wall.lean ====
section
/-! DEFINITION. Wall: the commands of the wall bus and the wall ledgers: ROLLCALL, frames heard and read
back, attempts, MUTE and the ledgers' timers (chapters 10 and 11). -/

namespace Sys2Proof.Machine

/-! ### ROLLCALL (R187) -/

/-- ROLLCALL (R187). -/
def Lane.rollcallRequest (l : Lane) (h : Sender) (conditions : BitVec 16) : Lane :=
  if 2 ^ 14 ≤ conditions.toNat then l.reply h kindRollcall .malformed
  else if l.conditions &&& conditions = 0#16 then l
  else l.replyPower h kindRollcall (.conditions l.conditions)

/-! ### Payloads (R196) -/

/-- The number that `n` bytes spell from a byte on, most significant byte first. -/
def payloadField (p : List Byte) (start n : Nat) : Nat :=
  ((p.drop start).take n).foldl (fun acc b => acc * 256 + b.toNat) 0

/-- One byte of a payload. -/
def payloadByte (p : List Byte) (i : Nat) : Byte := (p[i]?).getD 0#8

/-- The quantity a code names. -/
def quantityOf (code : Byte) : Option Quantity :=
  if code = 0#8 then some .cash else if code = 1#8 then some .place else none

/-- The service state a code names. -/
def serviceOf : Nat → Option Service
  | 0 => some .starting | 1 => some .setup | 2 => some .closed | 3 => some .opened | 4 => some .failed
  | _ => none

/-- The lockdown state a code names. -/
def lockOf : Nat → Option LockState
  | 0 => some .clear | 1 => some .locked | 2 => some .releasable | _ => none

/-- The STATUS a payload spells. -/
def statusOf (p : List Byte) : StatusHeard where
  service := serviceOf (payloadField p 0 1)
  lock := lockOf (payloadField p 1 1)
  cash := payloadField p 2 3
  places := payloadField p 5 2
  wall := payloadField p 7 3
  safe := payloadField p 10 2

/-- The origin a LOCKDOWN payload spells; none where it names no lane or no loop. -/
def originOf (p : List Byte) : Option LoopOrigin :=
  let lane := payloadField p 0 1
  let loop := payloadField p 1 1
  if lane < 8 ∧ loop < 8 then some ⟨Fin.ofNat 8 lane, Fin.ofNat 8 loop⟩ else none

/-! ### Requests as frames (R184) -/

/-- A LOOPS or DRIVERS frame: the clear flag chooses the request; its other bits are reserved. -/
def Lane.flagged (l : Lane) (h : Sender) (kind : Fin 32) (flags : Byte) (plain clear : Lane → Sender → Lane) :
    Lane :=
  let reserved := 1 < flags.toNat
  if flags.toNat % 2 = 1 then
    if reserved then l.supervised h kind fun l => l.reply h kind .malformed else clear l h
  else if reserved then l.reply h kind .malformed
  else plain l h

/-- A LANE frame: permission, then the reserved bits and the action's code, then the request (R184,
R194). -/
def Lane.laneFrame (l : Lane) (h : Sender) (action flags : Byte) : Lane :=
  l.supervised h kindLane fun l =>
    if 1 < flags.toNat ∨ 2 < action.toNat then l.reply h kindLane .malformed
    else if flags.toNat = 1 then
      l.clearDrawerRequest h
        (if action.toNat = 0 then .noAction else if action.toNat = 1 then .openLane else .closeLane)
    else if action.toNat = 0 then l.noneRequest h
    else if action.toNat = 1 then l.openRequest h
    else l.closeRequest h

/-- What the reset of a RESTART that comes as a frame reads: the frame carries none of it (log entry
20). -/
def Lane.restartInputs (l : Lane) : ResetInputs where
  lane := Config.restartLane l.free
  laneCount := (Config.restartCount l.free).val + 1
  memoryOk := Config.restartMemory l.free
  loopbackOk := Config.restartLoopback l.free
  converter := Config.restartConverter l.free

/-- A RESTART frame takes its reset's readings as free values (R195, log entry 20). -/
def Lane.restartFrame (l : Lane) (h : Sender) : Lane :=
  if l.settings.supervisor = some h.source ∧ l.sup.service = .closed then
    ({ l with free := l.free + 1 } : Lane).restartRequest h l.restartInputs
  else l.restartRequest h l.restartInputs

/-- A request frame is passed to its owning block by its kind code (R184, R196). -/
def Lane.request (l : Lane) (h : Sender) (kind : Fin 32) (p : List Byte) : Lane :=
  match kind.val with
  | 5 => l.payoutRequest h (payloadField p 0 3) (payloadByte p 3)
  | 6 => l.recallRequest h
  | 7 => l.intakeRequest h (payloadByte p 0)
  | 8 => l.keepRequest h
  | 9 => l.givebackRequest h
  | 10 => l.slotRequest h
  | 11 => l.inventoryRequest h (payloadByte p 0)
  | 12 => l.restockRequest h (payloadByte p 0) (payloadField p 1 2) (payloadField p 3 2)
  | 13 => l.journalRequest h (payloadField p 0 2)
  | 14 => l.flagged h kindLoops (payloadByte p 0) Lane.loopsRequest Lane.loopsClearRequest
  | 15 => l.flagged h kindDrivers (payloadByte p 0) Lane.driversRequest Lane.driversClearRequest
  | 16 => l.safeOpenRequest h
  | 17 => l.safeCloseRequest h
  | 18 => l.resumeRequest h
  | 19 => l.laneFrame h (payloadByte p 0) (payloadByte p 1)
  | 20 => l.testRequest h
  | 21 => l.restartFrame h
  | 22 => l.rollcallRequest h (BitVec.ofNat 16 (payloadField p 0 2))
  | 23 => l.setupRequest h (payloadByte p 0) (payloadByte p 1) (BitVec.ofNat 32 (payloadField p 2 4))
  | 24 => l.setupDoneRequest h
  | _ => l

/-! ### Receiving (R181) -/

/-- This lane's number is the frame's destination. -/
def Lane.ownDest (l : Lane) (f : WireFrame) : Bool := f.dest == laneStation l.sup.lane

/-- A request is addressed to this lane: at its number, or a ROLLCALL at 15 (R184). -/
def Lane.addressed (l : Lane) (f : WireFrame) : Bool :=
  l.ownDest f || (f.dest.val == 15 && f.kind == kindRollcall)

/-- A frame that is not good, answered MALFORMED where R181 says so; a FAILED lane answers none (R188). -/
def Lane.malformedFrame (l : Lane) (f : WireFrame) (answered : Bool) : Lane :=
  if answered && isConsole f.source && l.sup.service != .failed then
    l.reply ⟨f.source, f.tag⟩ f.kind .malformed
  else l

/-- A good frame of another station is handed on by its kind (R181). -/
def Lane.handOn (l : Lane) (f : WireFrame) : Lane :=
  let peer := fun (g : LaneNo → Lane) => match stationLane f.source with | some n => g n | none => l
  match f.kind.val with
  | 0 => l.lockdownFrame f.source (originOf f.payload)
  | 1 =>
    match quantityOf (payloadByte f.payload 0) with
    | some q => peer (fun n => l.peerAdjust n (fun p => p.claim q (payloadField f.payload 1 3)))
    | none => l
  | 2 =>
    match quantityOf (payloadByte f.payload 0) with
    | some q => peer (fun n => l.peerAdjust n (fun p => p.release q (payloadField f.payload 1 3)))
    | none => l
  | 3 =>
    if payloadByte f.payload 0 = 0#8 then l.beginHeard f.source
    else if payloadByte f.payload 0 = 1#8 then l.endHeard f.source
    else l
  | 4 => l.emptiedHeard f.source (payloadField f.payload 0 2)
  | 27 => peer (fun n => l.peerStatus n (statusOf f.payload))
  | _ =>
    if isRequestKind f.kind && l.addressed f then
      l.take ⟨f.source, f.tag⟩ (fun l => l.request ⟨f.source, f.tag⟩ f.kind f.payload)
    else l

/-- A frame with a good check of another station: discarded for its source, its kind code or its length, or
handed on (R181). -/
def Lane.accept (l : Lane) (f : WireFrame) : Lane :=
  if f.source.val = 15 then l
  else
    match kindLength f.kind with
    | none =>
      if 28 ≤ f.kind.val then l.malformedFrame f (l.ownDest f) else l
    | some n =>
      if f.length.val ≠ n then l.malformedFrame f (isRequestKind f.kind && l.addressed f)
      else (l.handOn f).settleRun

/-- A frame of another sender crosses the line (R181). Any frame with a good check acts on the silence timer,
the end of MUTE and the peer entry of its source, one that is then discarded too (R163, R174, R179). -/
def Lane.frameReceived (l : Lane) (f : WireFrame) : Lane :=
  if f.payload.length ≠ f.length.val ∨ !WireFrame.checkOk f then l
  else if f.source = laneStation l.sup.lane then l.clash
  else (l.stationHeard f.source).accept f

/-! ### The ends of MUTE -/

/-- MUTE with cause DROPS ends after 32 good frames (R179). -/
def Lane.muteEnds (l : Lane) : Lane :=
  match l.bus.mute with
  | .drops n =>
    if Config.muteGoodFrames ≤ n then { l with bus := { l.bus with mute := .no, drops := 0 } } else l
  | .no | .clash => l

/-- The announce timer expires: a STATUS is queued, and the timer restarts (R172). -/
def Lane.announceExpired (l : Lane) : Lane :=
  if l.ledgers.announce.isSome then l.queueStatus else l

/-! ### The commands -/

/-- ROLLCALL (R187). -/
def execRollcall (h : Sender) (conditions : BitVec 16) (s : State) : Host.Outcome State Fault Refusal :=
  s.onLane (fun l => l.take h (fun l => l.rollcallRequest h conditions))

/-- FRAME_RECEIVED (R181). -/
def execFrameReceived (f : WireFrame) (s : State) : Host.Outcome State Fault Refusal :=
  s.onLane (fun l => l.frameReceived f)

/-- PEER_CLAIM_HEARD (R166). -/
def execPeerClaimHeard (source : Station) (q : Quantity) (amount : Nat) (s : State) :
    Host.Outcome State Fault Refusal :=
  s.onLane (fun l => l.heardFrom source (fun l =>
    match stationLane source with
    | some n => (l.stationHeard source).peerAdjust n (fun p => p.claim q amount)
    | none => l.stationHeard source))

/-- PEER_RELEASE_HEARD (R166). -/
def execPeerReleaseHeard (source : Station) (q : Quantity) (amount : Nat) (s : State) :
    Host.Outcome State Fault Refusal :=
  s.onLane (fun l => l.heardFrom source (fun l =>
    match stationLane source with
    | some n => (l.stationHeard source).peerAdjust n (fun p => p.release q amount)
    | none => l.stationHeard source))

/-- PEER_STATUS_HEARD (R167). -/
def execPeerStatusHeard (source : Station) (status : StatusHeard) (s : State) :
    Host.Outcome State Fault Refusal :=
  s.onLane (fun l => l.heardFrom source (fun l =>
    match stationLane source with
    | some n => (l.stationHeard source).peerStatus n status
    | none => l.stationHeard source))

/-- ATTEMPT_START (R177). -/
def execAttemptStart (s : State) : Host.Outcome State Fault Refusal := s.onLane Lane.startAttempt

/-- ARBITRATION_LOST (R177). -/
def execArbitrationLost (s : State) : Host.Outcome State Fault Refusal := s.onLane Lane.takeOffLine

/-- ATTEMPT_FAILED (R178). -/
def execAttemptFailed (s : State) : Host.Outcome State Fault Refusal := s.onLane Lane.attemptFailed

/-- MUTE_DROPS_END (R179). -/
def execMuteDropsEnd (s : State) : Host.Outcome State Fault Refusal := s.onLane Lane.muteEnds

/-- FRAME_READBACK (R178). -/
def execFrameReadback (s : State) : Host.Outcome State Fault Refusal := s.onLane Lane.plainReadback

/-- CASH_CLAIM_READBACK (R37); what follows may start a drawer run (R49). -/
def execCashClaimReadback (s : State) : Host.Outcome State Fault Refusal :=
  s.onLane (fun l => l.cashReadback.settleRun)

/-- PLACE_CLAIM_READBACK (R101). -/
def execPlaceClaimReadback (s : State) : Host.Outcome State Fault Refusal := s.onLane Lane.placeReadback

/-- SAFE_BEGIN_READBACK (R107). -/
def execSafeBeginReadback (s : State) : Host.Outcome State Fault Refusal := s.onLane Lane.beginReadback

/-- SERVICE_END_READBACK (R109). -/
def execServiceEndReadback (s : State) : Host.Outcome State Fault Refusal := s.onLane Lane.endReadback

/-- ANNOUNCE_TIMER_EXPIRY (R172). -/
def execAnnounceTimerExpiry (s : State) : Host.Outcome State Fault Refusal := s.onLane Lane.announceExpired

/-- STALE_TIMEOUT (R164). -/
def execStaleTimeout (peer : LaneNo) (s : State) : Host.Outcome State Fault Refusal :=
  s.onLane (fun l => l.wentStale peer)

/-- LISTEN_DEADLINE (R165). -/
def execListenDeadline (peer : LaneNo) (s : State) : Host.Outcome State Fault Refusal :=
  s.onLane (fun l => l.listenPassed peer)

/-- SILENCE_TIMER_EXPIRY (R174). -/
def execSilenceTimerExpiry (s : State) : Host.Outcome State Fault Refusal := s.onLane Lane.silenceExpired

end Sys2Proof.Machine
end

