-- ==== Sys2Proof/Machine/Dispatch.lean ====
section
/-! DEFINITION. Dispatch: one arm per command, each one call of its meaning. -/

namespace Sys2Proof.Machine

/-- A command's effect on everything but the queue. -/
def exec (i : Instr) (s : State) : Host.Outcome State Fault Refusal :=
  match i with
  | .powerReset inp => Sys2Proof.Machine.execPowerReset inp s
  | .lineReset inp => Sys2Proof.Machine.execLineReset inp s
  | .journalScanComplete => Sys2Proof.Machine.execJournalScanComplete s
  | .homingComplete => Sys2Proof.Machine.execHomingComplete s
  | .setup h item selector value => Sys2Proof.Machine.execSetup h item selector value s
  | .setupDone h => Sys2Proof.Machine.execSetupDone h s
  | .laneOpen h => Sys2Proof.Machine.execLaneOpen h s
  | .laneClose h => Sys2Proof.Machine.execLaneClose h s
  | .laneNone h => Sys2Proof.Machine.execLaneNone h s
  | .laneClearDrawer h action => Sys2Proof.Machine.execLaneClearDrawer h action s
  | .test h => Sys2Proof.Machine.execTest h s
  | .testComplete converter => Sys2Proof.Machine.execTestComplete converter s
  | .restart h inp => Sys2Proof.Machine.execRestart h inp s
  | .payout h amount mixMode => Sys2Proof.Machine.execPayout h amount mixMode s
  | .recall h => Sys2Proof.Machine.execRecall h s
  | .intake h maximum => Sys2Proof.Machine.execIntake h maximum s
  | .keep h => Sys2Proof.Machine.execKeep h s
  | .giveback h => Sys2Proof.Machine.execGiveback h s
  | .escrowTimerExpiry => Sys2Proof.Machine.execEscrowTimerExpiry s
  | .slot h => Sys2Proof.Machine.execSlot h s
  | .inventory h selector => Sys2Proof.Machine.execInventory h selector s
  | .restock h target count denomination => Sys2Proof.Machine.execRestock h target count denomination s
  | .journal h index => Sys2Proof.Machine.execJournal h index s
  | .loops h => Sys2Proof.Machine.execLoops h s
  | .loopsClear h => Sys2Proof.Machine.execLoopsClear h s
  | .drivers h => Sys2Proof.Machine.execDrivers h s
  | .driversClear h => Sys2Proof.Machine.execDriversClear h s
  | .safeOpen h => Sys2Proof.Machine.execSafeOpen h s
  | .safeClose h => Sys2Proof.Machine.execSafeClose h s
  | .resume h => Sys2Proof.Machine.execResume h s
  | .rollcall h conditions => Sys2Proof.Machine.execRollcall h conditions s
  | .frameReceived f => Sys2Proof.Machine.execFrameReceived f s
  | .peerClaimHeard source quantity amount => Sys2Proof.Machine.execPeerClaimHeard source quantity amount s
  | .peerReleaseHeard source quantity amount => Sys2Proof.Machine.execPeerReleaseHeard source quantity amount s
  | .peerStatusHeard source status => Sys2Proof.Machine.execPeerStatusHeard source status s
  | .lockdownFrameHeard source origin => Sys2Proof.Machine.execLockdownFrameHeard source origin s
  | .safeServiceBeginHeard source => Sys2Proof.Machine.execSafeServiceBeginHeard source s
  | .safeServiceEndHeard source => Sys2Proof.Machine.execSafeServiceEndHeard source s
  | .emptiedHeard source epoch => Sys2Proof.Machine.execEmptiedHeard source epoch s
  | .attemptStart => Sys2Proof.Machine.execAttemptStart s
  | .arbitrationLost => Sys2Proof.Machine.execArbitrationLost s
  | .attemptFailed => Sys2Proof.Machine.execAttemptFailed s
  | .muteDropsEnd => Sys2Proof.Machine.execMuteDropsEnd s
  | .frameReadback => Sys2Proof.Machine.execFrameReadback s
  | .cashClaimReadback => Sys2Proof.Machine.execCashClaimReadback s
  | .placeClaimReadback => Sys2Proof.Machine.execPlaceClaimReadback s
  | .safeBeginReadback => Sys2Proof.Machine.execSafeBeginReadback s
  | .serviceEndReadback => Sys2Proof.Machine.execServiceEndReadback s
  | .breakHeard => Sys2Proof.Machine.execBreakHeard s
  | .breakEnd => Sys2Proof.Machine.execBreakEnd s
  | .announceTimerExpiry => Sys2Proof.Machine.execAnnounceTimerExpiry s
  | .staleTimeout peer => Sys2Proof.Machine.execStaleTimeout peer s
  | .listenDeadline peer => Sys2Proof.Machine.execListenDeadline peer s
  | .silenceTimerExpiry => Sys2Proof.Machine.execSilenceTimerExpiry s
  | .loopMeasurement loop code => Sys2Proof.Machine.execLoopMeasurement loop code s
  | .loopFilterExpiry loop => Sys2Proof.Machine.execLoopFilterExpiry loop s
  | .hitAgeing => Sys2Proof.Machine.execHitAgeing s
  | .holdTimerExpiry => Sys2Proof.Machine.execHoldTimerExpiry s
  | .driverConditionChange driver condition appears => Sys2Proof.Machine.execDriverConditionChange driver condition appears s
  | .blankingExpiry driver => Sys2Proof.Machine.execBlankingExpiry driver s
  | .tempHot => Sys2Proof.Machine.execTempHot s
  | .tempNormal => Sys2Proof.Machine.execTempNormal s
  | .strobeMinOnExpiry => Sys2Proof.Machine.execStrobeMinOnExpiry s
  | .lampHoldExpiry => Sys2Proof.Machine.execLampHoldExpiry s
  | .pick => Sys2Proof.Machine.execPick s
  | .checkResult result => Sys2Proof.Machine.execCheckResult result s
  | .checkMiss => Sys2Proof.Machine.execCheckMiss s
  | .remixAnswer => Sys2Proof.Machine.execRemixAnswer s
  | .transportJam pickPoint => Sys2Proof.Machine.execTransportJam pickPoint s
  | .binNoteDelivery source => Sys2Proof.Machine.execBinNoteDelivery source s
  | .cassetteRemoval position => Sys2Proof.Machine.execCassetteRemoval position s
  | .cassetteInsertion position => Sys2Proof.Machine.execCassetteInsertion position s
  | .endSensorArrival drawerEnd => Sys2Proof.Machine.execEndSensorArrival drawerEnd s
  | .travelTimerExpiry => Sys2Proof.Machine.execTravelTimerExpiry s
  | .drawerSensorLost drawerEnd => Sys2Proof.Machine.execDrawerSensorLost drawerEnd s
  | .traySensorChange occupied => Sys2Proof.Machine.execTraySensorChange occupied s
  | .takeFilterExpiry => Sys2Proof.Machine.execTakeFilterExpiry s
  | .takeTimerExpiry => Sys2Proof.Machine.execTakeTimerExpiry s
  | .placementFilterExpiry => Sys2Proof.Machine.execPlacementFilterExpiry s
  | .waitTimerExpiry => Sys2Proof.Machine.execWaitTimerExpiry s
  | .retractTrayExhausted => Sys2Proof.Machine.execRetractTrayExhausted s
  | .noteFed report => Sys2Proof.Machine.execNoteFed report s
  | .feederTrayExhausted => Sys2Proof.Machine.execFeederTrayExhausted s
  | .escrowNoteStacked => Sys2Proof.Machine.execEscrowNoteStacked s
  | .givebackNoteMoved => Sys2Proof.Machine.execGivebackNoteMoved s
  | .entrySensorChange reports => Sys2Proof.Machine.execEntrySensorChange reports s
  | .entryFilterExpiry => Sys2Proof.Machine.execEntryFilterExpiry s
  | .slotTimerExpiry => Sys2Proof.Machine.execSlotTimerExpiry s
  | .dropSensorReport => Sys2Proof.Machine.execDropSensorReport s
  | .dropTimerExpiry => Sys2Proof.Machine.execDropTimerExpiry s
  | .journalWriteStart => Sys2Proof.Machine.execJournalWriteStart s
  | .journalLineAnswer seen => Sys2Proof.Machine.execJournalLineAnswer seen s
  | .journalLineTimeout => Sys2Proof.Machine.execJournalLineTimeout s
  | .cartridgeRemoval => Sys2Proof.Machine.execCartridgeRemoval s
  | .cartridgeInsertion cells => Sys2Proof.Machine.execCartridgeInsertion cells s

end Sys2Proof.Machine
end

