-- ==== Sys2Proof/Machine/Timers.lean ====
section
/-! DEFINITION. Timers: which timer of the lane has run out. The lane's clock advances while no command
waits, and a timer that is due is then taken as its expiry command (log entry 1). -/

namespace Sys2Proof.Machine

/-- A timer has reached its time. -/
def Timer.due (clock : Nat) : Timer → Bool
  | none => false
  | some t => t ≤ clock

/-- The command where the condition holds. -/
def ifDue (b : Bool) (c : Instr) : List Instr := if b then [c] else []

/-- The drawer's timers and filters that are due (R59, R63, R65, R68). -/
def Lane.drawerDue (l : Lane) : List Instr :=
  ifDue (Timer.due l.clock l.drawer.travel) .travelTimerExpiry
    ++ ifDue (Timer.due l.clock l.drawer.takeFilter) .takeFilterExpiry
    ++ ifDue (Timer.due l.clock l.drawer.take) .takeTimerExpiry
    ++ ifDue (Timer.due l.clock l.drawer.placementFilter) .placementFilterExpiry
    ++ ifDue (Timer.due l.clock l.drawer.wait) .waitTimerExpiry

/-- The escrow timer is due (R84). -/
def Lane.escrowDue (l : Lane) : Bool :=
  match l.intake with
  | none => false
  | some i =>
    match i.state, i.timer with
    | .held, .running t => t ≤ l.clock
    | _, _ => false

/-- The envelope path's timers and filter that are due (R96). -/
def Lane.envelopeDue (l : Lane) : List Instr :=
  let opened := l.envelope.path == .opened && l.envelope.record.isSome
  let carries := l.envelope.path == .capturing && l.envelope.record.isSome || l.homesIn .envelope
  ifDue (opened && Timer.due l.clock l.envelope.entryFilter) .entryFilterExpiry
    ++ ifDue (opened && Timer.due l.clock l.envelope.slotTimer) .slotTimerExpiry
    ++ ifDue (carries && Timer.due l.clock l.envelope.dropTimer) .dropTimerExpiry

/-- The loops' candidate timers and the oldest hit that are due (R133, R138). -/
def Lane.loopsDue (l : Lane) : List Instr :=
  eightNumbers.flatMap (fun n =>
      ifDue (Timer.due l.clock (l.loops.entry.get n).candidate) (.loopFilterExpiry n))
    ++ ifDue (l.loops.hits.head?.any (fun t => t + Config.hitAge ≤ l.clock)) .hitAgeing

/-- The drivers' timers that are due (R141, R147, R148). -/
def Lane.driversDue (l : Lane) : List Instr :=
  Sys2Proof.drivers.flatMap (fun d => ifDue (Timer.due l.clock (l.driver d).blanking) (.blankingExpiry d))
    ++ ifDue (Timer.due l.clock l.drivers.strobeMinOn) .strobeMinOnExpiry
    ++ ifDue (Timer.due l.clock l.drivers.lampHold) .lampHoldExpiry

/-- A peer entry's stale timeout or listen deadline is due (R164). -/
def Lane.peersDue (l : Lane) : List Instr :=
  eightNumbers.flatMap (fun n =>
    let p := l.ledgers.peer.get n
    ifDue (p.state == .fresh && p.heardAt + l.staleTime ≤ l.clock) (.staleTimeout n)
      ++ ifDue (p.state == .unknown && Timer.due l.clock p.deadline) (.listenDeadline n))

/-- The bus's and the ledgers' timers that are due (R153, R172, R174, R179, R180). -/
def Lane.wallDue (l : Lane) : List Instr :=
  ifDue (Timer.due l.clock l.bus.breakTimer) .breakEnd
    ++ ifDue (match l.bus.mute with | .drops n => Config.muteGoodFrames ≤ n | .no | .clash => false)
        .muteDropsEnd
    ++ ifDue (l.lockdown.state == .locked && Timer.due l.clock l.lockdown.hold) .holdTimerExpiry
    ++ ifDue (Timer.due l.clock l.ledgers.silence) .silenceTimerExpiry
    ++ ifDue (l.sup.service.announces && Timer.due l.clock l.ledgers.announce) .announceTimerExpiry

/-- Every expiry that is due. -/
def Lane.due (l : Lane) : List Instr :=
  l.drawerDue ++ ifDue l.escrowDue .escrowTimerExpiry ++ l.envelopeDue ++ l.loopsDue ++ l.driversDue
    ++ l.peersDue ++ l.wallDue

/-- One millisecond passes. -/
def Lane.tick (l : Lane) : Lane := { l with clock := l.clock + 1 }

/-- An idle step with no timer due: homing goes on to its next step where its mechanism has nothing more to
report, and otherwise a millisecond passes (log entries 1 and 6). -/
def Lane.idle (l : Lane) : Lane :=
  match l.homingGoesOn with
  | some l' => l'
  | none => l.tick

end Sys2Proof.Machine
end

