-- ==== Sys2Proof/Machine/Step.lean ====
section
/-! DEFINITION. Step: one step of the machine, and the placing of a command in front of its queue. -/

namespace Sys2Proof.Machine

/-- One step: the command at the front of the queue is taken. With none waiting, a timer that is due is
taken, and otherwise homing goes on or a millisecond passes (log entry 1). -/
def step (s : State) : Host.Outcome State Fault Refusal :=
  match s.pending with
  | c :: rest => exec c { s with pending := rest }
  | [] =>
    match s.lane.due with
    | c :: _ => exec c s
    | [] => .next { s with lane := s.lane.idle }

/-- The state with the command a word spells put at the front of its queue; the state itself where the word
spells none. -/
def State.withFetchWord (s : State) (nbits w : Nat) : State :=
  match decodeTableWord nbits w with
  | some c => { s with pending := c :: s.pending }
  | none => s

end Sys2Proof.Machine
end

