-- ==== Sys2Proof/Safety.lean ====
section
/-! DEFINITION. Safety: the terms in which claims about the lane are stated: who may ask, what the lane
sends, the test tables of the requests, and the invariants that every step keeps. -/

namespace Sys2Proof

/-! ### The requests -/

/-- The sender of a request; none for a command that is no request (R176). -/
def Instr.sender : Instr → Option Sender
  | .setup h _ _ _ | .setupDone h | .laneOpen h | .laneClose h | .laneNone h | .laneClearDrawer h _
  | .test h | .restart h _ | .payout h _ _ | .recall h | .intake h _ | .keep h | .giveback h | .slot h
  | .inventory h _ | .restock h _ _ _ | .journal h _ | .loops h | .loopsClear h | .drivers h
  | .driversClear h | .safeOpen h | .safeClose h | .resume h | .rollcall h _ => some h
  | _ => none

/-- The kind code of a request that the attending console alone may send (R184). -/
def Instr.attendingOnly : Instr → Option (Fin 32)
  | .payout _ _ _ => some 5
  | .recall _ => some 6
  | .intake _ _ => some 7
  | .keep _ => some 8
  | .giveback _ => some 9
  | .slot _ => some 10
  | _ => none

/-- The kind code of a request that the supervisor console alone may send (R184). -/
def Instr.supervisorOnly : Instr → Option (Fin 32)
  | .restock _ _ _ _ => some 12
  | .loopsClear _ => some 14
  | .driversClear _ => some 15
  | .safeOpen _ => some 16
  | .safeClose _ => some 17
  | .resume _ => some 18
  | .laneOpen _ | .laneClose _ | .laneNone _ | .laneClearDrawer _ _ => some 19
  | .test _ => some 20
  | .restart _ _ => some 21
  | _ => none

namespace Machine

/-! ### Who asks -/

/-- The request decoder takes a request of this sender: the lane is not FAILED, fewer than 12 frames of
classes 2 and 3 are queued, and the sender is a console (R184, R188). -/
def Lane.takes (l : Lane) (h : Sender) : Bool :=
  l.sup.service != .failed && txLow l.bus.queue < Config.txLowLimit && isConsole h.source

/-- A request the decoder takes from the attending console (R184). -/
def Lane.fromAttending (l : Lane) (h : Sender) : Bool :=
  l.takes h && l.settings.attending == some h.source

/-- A request the decoder takes from the supervisor console (R184). -/
def Lane.fromSupervisor (l : Lane) (h : Sender) : Bool :=
  l.takes h && l.settings.supervisor == some h.source

/-! ### What the lane sends -/

/-- A frame the lane queues. -/
structure Outgoing where
  body : TxBody
  dest : Station
  tag : Tag
deriving DecidableEq, Repr

/-- A transmit queue after frames join it one by one (R183). -/
def queued : List TxFrame → List Outgoing → List TxFrame
  | q, [] => q
  | q, o :: rest => queued (txJoin q (TxFrame.fresh o.body o.dest o.tag)).1 rest

/-- The lane with these frames queued and nothing else changed. -/
def Lane.sending (l : Lane) (out : List Outgoing) : Lane :=
  { l with bus := { l.bus with queue := queued l.bus.queue out } }

/-- A REPLY: to the sender, with its tag (R185). -/
def replyTo (h : Sender) (kind : Fin 32) (code : ReplyCode) (body : ReplyBody := .empty) : Outgoing :=
  ⟨.reply kind code body, h.source, h.tag⟩

/-- A frame to every station. -/
def toEvery (body : TxBody) (tag : Tag) : Outgoing := ⟨body, everyStation, tag⟩

/-- A NOTICE for one console; none for a console not yet named (R186). -/
def toConsole (console : Option Station) (tag : Tag) (n : Notice) : List Outgoing :=
  match console with
  | none => []
  | some c => [⟨.notice n, c, tag⟩]

/-- A NOTICE for both consoles, the attending console's first, or one frame when they are the same
(R186). -/
def Lane.toBoth (l : Lane) (n : Notice) : List Outgoing :=
  if l.settings.attending = l.settings.supervisor then toConsole l.settings.attending 0 n
  else toConsole l.settings.attending 0 n ++ toConsole l.settings.supervisor 0 n

/-- What the lane queues when its state of service is announced (R172). -/
def Lane.statusOut (l : Lane) : List Outgoing :=
  if l.sup.service.announces then [toEvery (.status none) 0] else []

/-! ### The journal's reservations -/

/-- The journal with this many slots reserved: while it works, no more than the free ones, and its state
follows (R122, R123). -/
def Journal.withReserved (j : Journal) (n : Nat) : Journal :=
  if j.state.works then
    { j with reserved := min n j.free, state := journalStateOf j.free (min n j.free) }
  else { j with reserved := n }

/-- The NOTICE JOURNAL of the change to another journal state, if its state changed to LOW, FULL or FAULT
(R123). -/
def Lane.journalNews (l : Lane) (j : Journal) : List Outgoing :=
  if l.journal.state = j.state then []
  else match j.state.event with
    | none => []
    | some e => l.toBoth (.journal e j.free)

/-- The lane with another number of reserved slots, and the notice of that (R122, R123). -/
def Lane.reserving (l : Lane) (n : Nat) : Lane :=
  ({ l with journal := l.journal.withReserved n } : Lane).sending (l.journalNews (l.journal.withReserved n))

/-- The lane after `n` slots of a reservation are returned; returning none changes nothing (R122). -/
def Lane.returning (l : Lane) (n : Nat) : Lane :=
  if n = 0 then l else l.reserving (l.journal.reserved - n)

/-- The frames are NOTICE JOURNAL frames alone: what a returned reservation may add (R123). -/
def journalNoticesOnly (out : List Outgoing) : Bool :=
  out.all (fun o => match o.body with | .notice (.journal _ _) => true | _ => false)

/-! ### Tests -/

/-- The first failing test of a table gives its answer. -/
def firstFailing {β : Type} : List (Bool × β) → Option β
  | [] => none
  | (fails, answer) :: rest => if fails then some answer else firstFailing rest

/-! ### The cassettes and the course of a payout -/

/-- A cassette with another count: a derived state follows the count, a held one stays (R2). An UNUSED position has
no other state (R1). -/
def Cassette.withCount (c : Cassette) (n : Nat) : Cassette :=
  { c with
    count := n
    state :=
      if c.state = .ok ∨ c.state = .low ∨ c.state = .empty ∨ c.state = .full then
        if c.mode = .unused then .unused
        else if n = 0 then .empty
        else if n = c.capacity then .full
        else if c.mode ≠ .deposit ∧ n ≤ c.lowMark then .low
        else .ok
      else c.state }

/-- With picks halted and the note path empty, a payout in PICKING short of its amount asks for a remix: for the
rest of its amount, within what is left of 40 notes, without the lost position, of the table as it stands (R30,
R43). -/
def Lane.remixAsked (l : Lane) : Lane :=
  match l.payout with
  | some p =>
    if p.state = .picking ∧ l.transport.halted = true ∧ l.transport.path = [] ∧ l.transport.remix = none
        ∧ p.stackedValue ≠ p.amount then
      { l with transport := { l.transport with
          remix := some (remix l.cass.entry (p.amount - p.stackedValue) (40 - p.stackedNotes) l.transport.lost) } }
    else l
  | none => l

/-- The first position of the pick list with quota above 0 whose cassette is not eligible is lost: a payout in
PICKING has its picks halted, and with an empty note path asks for the remix at once (R39, R43). -/
def Lane.positionLost (l : Lane) : Lane :=
  match l.payout, l.transport.pickList.find? (fun e => 0 < e.quota && !(l.cass.entry.get e.position).eligible) with
  | some p, some e =>
    if p.state = .picking ∧ l.transport.halted = false then
      ({ l with transport := { l.transport with halted := true, lost := some e.position } } : Lane).remixAsked
    else l
  | _, _ => l

/-- A payout past its claim is over: its record joins under the reservation, the RELEASE of its claim and its notice
are queued, own cash held is 0, the slots it did not use are returned, and it owns the drawer no more (R45, R46,
R48, R56, R62). -/
def Lane.payoutOver (l : Lane) (p : Payout) (r : Record) (n : Notice) : Lane :=
  let ended := ({ l.sending [toEvery (.release .cash p.amount) p.tag, ⟨.notice n, p.console, p.tag⟩] with
    payout := none
    ledgers := { l.ledgers with cash := 0 }
    transport := { l.transport with pickList := [], halted := false, lost := none, remix := none }
    journal := { l.journal with queue := l.journal.queue ++
      [{ record := r, seconds := l.wallSeconds, reserved := true }] } } : Lane).returning (p.slots - 1)
  { ended with drawer := match l.drawer.owner with
      | some o => if o.kind = .payout then { l.drawer with owner := none, receiving := false } else l.drawer
      | none => l.drawer }

/-- A payout goes to PURGING with an outcome while notes of it are in the note path or the stacker: picks are halted,
the pick list is dropped, and a held request for the drawer is withdrawn (R42, R46, R61). -/
def Lane.purging (l : Lane) (p : Payout) (o : PayoutOutcome) : Lane :=
  { l with
    payout := some { p with state := .purging, outcome := some o }
    transport := { l.transport with pickList := [], halted := true, lost := none, remix := none }
    drawer := { l.drawer with waiting := false } }

/-- What the lane's leaving OPEN does to its jobs, the payout first (log entry 23). One in STAGED or CLAIMING ends: its
claim is given up, its slots are returned, and the PAYOUT is answered STATE. An envelope record in STAGED or CLAIMING is
cancelled with REPLY STATE, kept abandoned in CLAIMING; an OPEN slot closes on no envelope, its place given back, with
NOTICE ENVELOPE_END CANCELLED, cause CLOSED. Every other job runs on (R55, R98, R100, R105). -/
def Lane.jobsClosed (l : Lane) : Lane :=
  let l := match l.payout with
    | some p =>
      if p.state = .staged ∨ p.state = .claiming then
        (({ l.abandonClaim .cash with payout := none } : Lane).returning p.slots).sending
          [replyTo ⟨p.console, p.tag⟩ 5 .state]
      else l
    | none => l
  let cancelled := fun (r : EnvelopeRecord) (path : PathState) (kept : Option EnvelopeRecord) =>
    if r.abandoned then l
    else (({ l.abandonClaim .place with
        envelope := { l.envelope with path := path, record := kept } } : Lane).returning 1).sending
      [replyTo ⟨r.console, r.tag⟩ 10 .state]
  match l.envelope.record, l.envelope.path with
  | some r, .staged => cancelled r .idle none
  | some r, .claiming => cancelled r .claiming (some { r with abandoned := true, faultAtEnd := false })
  | some r, .opened =>
    (({ l.sending [toEvery (.release .place 1) r.tag] with
        drivers := (l.command .envGate false).drivers
        ledgers := { l.ledgers with places := l.ledgers.places - 1 }
        envelope := { l.envelope with
          record := none, path := .idle, slotTimer := none, entryFilter := none } } : Lane).returning 1).sending
      [⟨.notice (.envelopeEnd .cancelled (some .closed) none), r.console, r.tag⟩]
  | _, _ => l

/-! ### The lane leaves OPEN -/

/-- Shutter and lamp after a change of the service state or of the lockdown state: the shutter is driven after
SETUP_DONE while the lane is not in lockdown, and the lamp follows its demand with a new hold of 1 s, unless a hold
runs or it shows the demand already (R148, and the shutter's row of R141). -/
def Lane.shown (l : Lane) : Lane :=
  let shut := l.command .shutter
    (decide ((l.sup.service = .closed ∨ l.sup.service = .opened) ∧ l.lockdown.state = .clear))
  let demand := decide (l.sup.service = .opened ∧ l.lockdown.state = .clear)
  if l.drivers.lampHold.isSome = true ∨ (l.driver .laneLamp).commanded = demand then shut
  else
    let lamp := shut.command .laneLamp demand
    { lamp with drivers := { lamp.drivers with lampHold := some (l.clock + 1000) } }

/-- A lane that was OPEN is CLOSED: its jobs take their lane-close rules, shutter and lamp follow, and a STATUS is
queued, which starts the announce timer afresh. Any other lane is as it was (R55, R105, R148, R172, R188). -/
def Lane.asClosed (l : Lane) : Lane :=
  if l.sup.service = .opened then
    let jobs := ({ l with sup := { l.sup with service := .closed } } : Lane).jobsClosed
    { jobs.shown.sending [toEvery (.status none) 0] with
      ledgers := { jobs.ledgers with announce := some (l.clock + l.settings.announce * 1000) } }
  else l

/-- The lane with these closing causes, closed for them where it was OPEN (R188). -/
def Lane.closedFor (l : Lane) (causes : Causes) : Lane :=
  ({ l with sup := { l.sup with causes := causes } } : Lane).asClosed

/-! ### Driver faults -/

/-- A latched fault of ENV_GATE or IMPRINT reaches the envelope path. An IDLE path is FAULT. A record in STAGED or
CLAIMING is cancelled with REPLY UNAVAILABLE, and one already abandoned is only marked for FAULT. An OPEN slot closes
on no envelope, its place given back, with NOTICE ENVELOPE_END CANCELLED, cause FAULT. A capture runs on to end in
FAULT (R100, R104). -/
def Lane.envelopeFaulted (l : Lane) : Lane :=
  let marked := fun (r : EnvelopeRecord) =>
    { l with envelope := { l.envelope with record := some { r with faultAtEnd := true } } }
  let cancelled := fun (r : EnvelopeRecord) (path : PathState) (kept : Option EnvelopeRecord) =>
    if r.abandoned then marked r
    else (({ l.abandonClaim .place with
        envelope := { l.envelope with path := path, record := kept } } : Lane).returning 1).sending
      [replyTo ⟨r.console, r.tag⟩ 10 .unavailable]
  match l.envelope.record, l.envelope.path with
  | some r, .staged => cancelled r .fault none
  | some r, .claiming => cancelled r .claiming (some { r with abandoned := true, faultAtEnd := true })
  | some r, .opened =>
    (({ l.sending [toEvery (.release .place 1) r.tag] with
        drivers := (l.command .envGate false).drivers
        ledgers := { l.ledgers with places := l.ledgers.places - 1 }
        envelope := { l.envelope with
          record := none, path := .fault, slotTimer := none, entryFilter := none } } : Lane).returning 1).sending
      [⟨.notice (.envelopeEnd .cancelled (some .fault) none), r.console, r.tag⟩]
  | some r, .capturing => marked r
  | none, .idle => { l with envelope := { l.envelope with path := .fault } }
  | _, _ => l

/-- The closing cause DRIVER follows the latched sets: held while SHUTTER has a latched fault or any set holds HOT,
it closes an OPEN lane where it is newly raised (R143, R188). -/
def Lane.driverCaused (l : Lane) : Lane :=
  let held := !(l.driver .shutter).latched.isEmpty || Sys2Proof.drivers.any (fun d => (l.driver d).latched.hot)
  let causes := { l.sup.causes with driver := held }
  if held && !l.sup.causes.driver then l.closedFor causes
  else { l with sup := { l.sup with causes := causes } }

/-! ### The steps of homing -/

/-- Homing's step 2 begins: the drawer makes its HOMING run; where the HOME sensor reports already, the run ends at
once and the count of the tray begins (R59, R73, R190). -/
def Lane.drawerHoming (l : Lane) : Lane :=
  let run := ({ l with sup := { l.sup with homing := { l.sup.homing with step := .drawer } } } : Lane).startRun
    .homing
  if l.drawer.atEnd = some .home then
    { run with
      drivers := (run.command .drawerIn false).drivers
      drawer := { run.drawer with
        position := .home, movement := none, travel := none, counting := true, counted := 0 } }
  else run

/-- Homing's step 4 begins: an envelope the mechanism holds takes the next serial and is carried to the drop, with
the gate off, the imprinter on and 5 s for the drop (R97, R98, R190). -/
def Lane.envelopeHoming (l : Lane) : Lane :=
  let at4 : Lane := { l with sup := { l.sup with homing := { l.sup.homing with step := .envelope } } }
  if l.envelope.held then
    { at4 with
      drivers := ((l.command .envGate false).command .imprint true).drivers
      envelope := { l.envelope with
        serial := if l.envelope.serial = 65535 then 1 else l.envelope.serial + 1
        dropTimer := some (l.clock + 5000) } }
  else at4

/-! ### Notes that the bin accepts, and jams -/

/-- The lane after the bin accepts a note: its count is one higher, and a change of its state is told (R7, R8,
R12). -/
def Lane.binned (l : Lane) : Lane :=
  let bin := { l.cass.bin with count := l.cass.bin.count + 1 }
  { l.sending (if bin.state = l.cass.bin.state then []
      else l.toBoth (.cassetteChange none (.inr bin.state) none bin.count)) with
    cass := { l.cass with bin := bin } }

/-- The lane after a transport jam is reported at a pick point: the cassette there is FAULT, cause JAM, unless it is
FAULT, OUT or UNUSED already, and the change is told (R5, R12). -/
def Lane.struckAt (l : Lane) (at_ : Option Position) : Lane :=
  match at_ with
  | none => l
  | some i =>
    let c := l.cass.entry.get i
    let held := c.state = .out ∨ c.state = .fault ∨ c.state = .unused
    let struck := if held then c else { c with state := .fault, cause := some .jam }
    { l.sending (if held then [] else l.toBoth (.cassetteChange (some i) (.inl .fault) (some .jam) c.count)) with
      cass := { l.cass with entry := l.cass.entry.set i struck } }

/-! ### The ends of an intake -/

/-- The journal after records join its write queue under a reservation (R116). -/
def Lane.joining (l : Lane) (records : List Record) : Journal :=
  let joined : List QueuedRecord :=
    records.map (fun r => { record := r, seconds := l.wallSeconds, reserved := true })
  { l.journal with queue := l.journal.queue ++ joined }

/-- The CAPTURE record of notes delivered, if there are any (R80, R82, R89). -/
def captured (reason : CaptureReason) (n : Nat) : List Record := if n = 0 then [] else [.capture reason n]

/-- Feeding and any return presentation are over: NOTICE INTAKE_END, and the intake is HELD with its escrow timer,
or, with an empty escrow, over with the slots it did not use returned (R81, R82, R84, R94, R95). -/
def Lane.depositOver (l : Lane) (i : Intake) : Lane :=
  let ends := fun result => (⟨.notice (.intakeEnd result i.counts (l.escrowValue i) i.returned i.suspect
    i.uncollected i.trayLeft), i.console, i.tag⟩ : Outgoing)
  if i.escrow = [] then (({ l.sending [ends .noEscrow] with intake := none } : Lane).returning i.slots)
  else { l.sending [ends .held] with
    intake := some { i with
      state := .held, presentDeferred := false
      timer := if l.lockdown.state = .clear then .running (l.clock + l.settings.escrowTimeout * 1000)
        else .suspended (l.settings.escrowTimeout * 1000) } }

/-- A receive has ended with nothing: NOTICE INTAKE_END with result EMPTY, and the reservation is returned (R78, R90,
R95). -/
def Lane.receiveOver (l : Lane) (i : Intake) : Lane :=
  ({ l.sending [⟨.notice (.intakeEnd .empty (Eight.replicate 0) 0 0 0 0 false), i.console, i.tag⟩] with
    intake := none } : Lane).returning i.slots

/-- A giveback is over: NOTICE ESCROW_END with its cause and note count, and the slots it did not use are returned
(R89, R90, R94, R95). The fields that the outcome does not fill are 0 (log entry 21). -/
def Lane.givebackOver (l : Lane) (i : Intake) (outcome : EscrowOutcome) (counted unaccounted : Nat) : Lane :=
  ({ l.sending [⟨.notice (.escrowEnd outcome (some i.cause) i.givebackNotes 0 counted unaccounted 0), i.console,
      i.tag⟩] with intake := none } : Lane).returning i.slots

/-- The transport is blocked under an intake: it is STOPPED, with what the interrupted step owes written under its
reservation and told, and a drawer that it owns is released as it stands (R91). -/
def Lane.intakeStopped (l : Lane) (i : Intake) (records : List Record) (n : Notice) : Lane :=
  { l.sending [⟨.notice n, i.console, i.tag⟩] with
    intake := some { i with
      state := .stopped, timer := .stopped, presentDeferred := false, slots := i.slots - records.length }
    journal := l.joining records
    drawer := match l.drawer.owner with
      | some o => if o.kind = .payout then l.drawer else { l.drawer with owner := none, receiving := false }
      | none => l.drawer }

/-! ### The drawer -/

/-- No run is in progress whose end sensor already reports: the drawer waits for an event (R59). -/
def Lane.settled (l : Lane) : Bool :=
  match l.drawer.atEnd with
  | none => true
  | some e => (l.runEnds e).isNone

/-! ### Start-up -/

/-- The records homing made, in order, START last, and the LOCKDOWN records held behind them (R152,
R190). -/
def Lane.startRecords (l : Lane) : List Record :=
  let h := l.sup.homing
  (if h.moduleNotes = 0 then [] else [.purge .start (Four.replicate 0) h.moduleNotes])
    ++ (if h.trayNotes = 0 then [] else [.capture .start h.trayNotes])
    ++ (if h.escrowNotes = 0 then [] else [.capture .start h.escrowNotes])
    ++ (match h.envelope with | none => [] | some serial => [.envelope serial false])
    ++ [.start l.sup.resetCause l.sup.queueLoss] ++ l.lockdown.heldRecords

/-! ### Resets -/

/-- The fault set a driver holds after a reset: HOT where the sensor reads hot, and, once self-test step 3 has
run, the off-state conditions its stage shows (R145, R146). -/
def ResetFaults (hot tested : Bool) (stage : FaultSet) : FaultSet :=
  ⟨tested && stage.openOff, false, false, tested && stage.shortSupply, hot⟩

/-- The driver fails self-test step 3 at a reset (R146). -/
def ResetFails (e : DriverEntry) : Bool := e.stage.shortSupply || e.stage.openOff

/-- What a reset leaves in every block, whatever stood there before (R188 and the chapter of each block), with
what the self-test's steps 1 to 4 and a hot sensor then make of it (R145, R146, R189). The readings of sensors
stay (log entry 5). -/
structure ResetLeaves (before after : Lane) (inp : ResetInputs) (cause : ResetCause) (loss : Bool) : Prop where
  service : after.sup.service = if inp.memoryOk && inp.loopbackOk then .starting else .failed
  straps : after.sup.lane = inp.lane ∧ after.sup.laneCount = inp.laneCount
  causeNoted : after.sup.resetCause = cause ∧ after.sup.queueLoss = loss
  powerLost : after.sup.powerLost = decide (cause = .power)
  mechanismCauses : after.sup.causes.transportModule = false ∧ after.sup.causes.transportDrawer = false
    ∧ after.sup.causes.purgeModule = false ∧ after.sup.causes.purgeDrawer = false
    ∧ after.sup.causes.drawer = false ∧ after.sup.causes.attack = false
    ∧ after.sup.causes.enclosure = false
  testCauses : let tested := inp.memoryOk && inp.loopbackOk
    let fails := drivers.any (fun d => ResetFails (before.driver d))
    let reference := 124 ≤ inp.converter.toNat && inp.converter.toNat ≤ 132
    after.sup.causes.driverTest = (tested && fails)
    ∧ after.sup.causes.converter = (tested && !fails && !reference)
    ∧ after.sup.causes.journal = (tested && (fails || !reference))
    ∧ after.sup.converterFault = (tested && !fails && !reference)
    ∧ after.sup.scanning = (tested && !fails && reference)
    ∧ (∀ d : Driver, after.sup.driverTest.get d.index = (tested && ResetFails (before.driver d)))
    ∧ after.sup.homing = ⟨tested && (fails || !reference), .module, 0, 0, 0, none⟩
  driverCause : after.sup.causes.driver = (before.drivers.hot
    || inp.memoryOk && inp.loopbackOk && ResetFails (before.driver .shutter))
  setup : after.settings = Settings.defaults ∧ after.sup.pending = Settings.defaults
    ∧ after.sup.setupConsole = none ∧ after.sup.wallBase = none ∧ after.sup.testRun = none
    ∧ after.sup.clearing = none
  jobs : after.payout = none ∧ after.intake = none
  transport : after.transport = ⟨[], [], 0, false, none, none, ⟨.empty, 0, 0⟩⟩
  cassettes : (∀ i, after.cass.entry.get i = ⟨.unused, none, 0, none, 2000, 100, .unused, 0, none, none⟩)
    ∧ after.cass.bin = ⟨if after.sup.causes.journal then 400 else 0, 300⟩
    ∧ (∀ i, after.cass.denominations.get i = none) ∧ after.cass.present = before.cass.present
    ∧ (∀ i, after.cass.replay.get i = ⟨false, 0, none, none, [], true⟩)
  drawer : after.drawer =
    { position := .retracting, movement := some .homing, contents := .empty, owner := none,
      lastOwnerTag := none, presented := 0, counted := 0, waiting := false, counting := false,
      receiving := false, travel := none, take := none, wait := none, takeFilter := none,
      placementFilter := none, tray := before.drawer.tray, traySince := 0, atEnd := before.drawer.atEnd }
  envelope : let gate := ResetFails (before.driver .envGate) || ResetFails (before.driver .imprint)
    after.envelope =
      { path := if before.drivers.hot || inp.memoryOk && inp.loopbackOk && gate then .fault else .idle
        record := none, slotTimer := none, entryFilter := none, dropTimer := none
        entry := before.envelope.entry, held := before.envelope.held, serial := 0, service := none
        phase := .noService, epoch := 0 }
  lockdown : after.lockdown = { state := .clear, hold := none, heldRecords := [] }
  ledgers : after.ledgers =
    { cash := 0, places := if after.sup.causes.journal then 5000 else 0
      peer := Peer.table inp.lane inp.laneCount, announce := none, silence := none, isolated := false }
  bus : after.bus = { queue := [], drops := 0, mute := .no, breakTimer := none }
  journal : after.journal =
    { cells := after.journal.cells, present := before.journal.present, queue := [], headSequence := none
      op := none, writePage := none, nextSlot := 1, voids := 0, nextPrimary := 3968, lastPageSequence := 0
      priorPageSequence := 0, spares := [], orderSpare := none, reserved := 0, highest := 0, state := .fault, lost := false }
  cartridge : before.journal.op = none → after.journal.cells = before.journal.cells
  loops : after.loops.hits = [] ∧ ∀ n,
    after.loops.entry.get n = ⟨(before.loops.entry.get n).level, none, none, false, 0⟩
  drivers : after.drivers.hot = before.drivers.hot ∧ after.drivers.strobeMinOn = none
    ∧ after.drivers.lampHold = none
    ∧ ∀ d, let faults := ResetFaults before.drivers.hot (inp.memoryOk && inp.loopbackOk) (before.driver d).stage
      after.driver d = ⟨false, true, faults, faults, none, (before.driver d).stage⟩

/-! ### The journal's logical order (R114) -/

/-- What the header of a page says. -/
def pageKind (m : List Host.Cell) (p : Nat) : HeaderKind := headerKind (Memory.readSlot m p 0)

/-- A record slot of a page is used: it does not read all ones. -/
def slotUsed (m : List Host.Cell) (p s : Nat) : Bool := Memory.readSlot m p s != BitVec.allOnes 128

/-- The used record slots of a page in ascending order; of an OPEN page those before its first unused one. -/
def slotsInOrder (m : List Host.Cell) (p : Nat) : List Nat :=
  [1, 2, 3, 4, 5, 6, 7, 8, 9, 10, 11, 12, 13, 14, 15].filter (fun s =>
    if pageKind m p = .opened then (List.range s).all (fun k => slotUsed m p (k + 1)) else slotUsed m p s)

/-- Every record slot of a page is used. -/
def pageFull (m : List Host.Cell) (p : Nat) : Bool := (List.range 15).all (fun k => slotUsed m p (k + 1))

/-- Where the logical order ends: the OPEN page it ends in, a FRESH spare it has reached, and the next primary
page to be opened. -/
structure OrderEnd where
  openPage : Option Nat
  freshSpare : Option Nat
  nextPrimary : Nat
deriving DecidableEq, Repr

/-- The pages of the journal in logical order from a page on, and where the order ends (R114, R127): `primary`
is the primary page that began the run. After a page, a redirect leads to the spare it names, and any other end
of a page to the next primary page. -/
inductive OrderFrom (m : List Host.Cell) : Nat → Nat → List Nat → OrderEnd → Prop
  | endsInOpen (page primary : Nat) : pageKind m page = .opened → pageFull m page = false →
      OrderFrom m page primary [page] ⟨some page, none, primary + 1⟩
  | endsBeforeFresh (primary : Nat) : pageKind m primary = .fresh →
      OrderFrom m primary primary [] ⟨none, none, primary⟩
  | endsBeforeFreshSpare (page primary : Nat) : pageKind m page = .fresh → page ≠ primary →
      OrderFrom m page primary [] ⟨none, some page, primary + 1⟩
  | redirect (page primary spare : Nat) (rest : List Nat) (e : OrderEnd) :
      pageKind m page = .retired (some spare) → OrderFrom m spare primary rest e →
      OrderFrom m page primary (page :: rest) e
  | next (page primary : Nat) (rest : List Nat) (e : OrderEnd) :
      (pageKind m page = .skipped ∨ pageKind m page = .sealedPage ∨ pageKind m page = .retired none
        ∨ pageKind m page = .unreadable ∨ (pageKind m page = .opened ∧ pageFull m page = true)) →
      primary + 1 < 3968 → OrderFrom m (primary + 1) (primary + 1) rest e →
      OrderFrom m page primary (page :: rest) e
  | endsAfterLast (page primary : Nat) :
      (pageKind m page = .skipped ∨ pageKind m page = .sealedPage ∨ pageKind m page = .retired none
        ∨ pageKind m page = .unreadable ∨ (pageKind m page = .opened ∧ pageFull m page = true)) →
      3968 ≤ primary + 1 →
      OrderFrom m page primary [page] ⟨none, none, 3968⟩

/-- The whole journal's logical order, from primary page 0; no page comes twice, which the bound of a walk
needs. -/
def LogicalOrder (m : List Host.Cell) (pages : List Nat) (e : OrderEnd) : Prop :=
  OrderFrom m 0 0 pages e ∧ pages.Nodup ∧ pages.length < 4096

/-- The used record slots of pages, in order, each with its page; a skipped page has none. -/
def usedInOrder (m : List Host.Cell) (pages : List Nat) : List (Nat × Nat) :=
  pages.flatMap (fun p => if pageKind m p = .skipped then [] else (slotsInOrder m p).map (fun s => (p, s)))

/-- The page sequence of the last of these pages that has one, 0 where none has (R115). -/
def lastSequence (m : List Host.Cell) (pages : List Nat) : Nat :=
  match (pages.filter (fun p => pageKind m p != .skipped
      && !(pageKind m p == .unreadable && headerSequence (Memory.readSlot m p 0) == 65535))).getLast? with
  | none => 0
  | some p => headerSequence (Memory.readSlot m p 0)

/-- The status of a used slot of a page with these pages before it in logical order (R114, R115, R126, R127). -/
def statusInOrder (m : List Host.Cell) (before : List Nat) (p s : Nat) : ReadStatus :=
  let v := Memory.readSlot m p s
  if pageKind m p = .unreadable then .checkBad
  else if headerSequence (Memory.readSlot m p 0) ≠ lastSequence m before + 1 then .checkBad
  else if v = 0#128 then .void
  else if pageKind m p = .sealedPage
      ∧ headerSeal (Memory.readSlot m p 0) ≠ (sealCheck m p).toNat then .checkBad
  else if recordCheckOk p s v then .good
  else .checkBad

/-! ### The replay of the records (R16, R17) -/

/-- The record a scanned slot gives the replay; none where it is VOID or unreadable. -/
def ScanEntry.record? (e : ScanEntry) : Option Record :=
  if e.status = .good then decodeRecord e.value else none

/-- The scanned slot is unreadable: CHECK_BAD, or GOOD with a field out of range (R17, R197). -/
def ScanEntry.unreadable (e : ScanEntry) : Bool :=
  e.status == .checkBad || (e.status == .good && (decodeRecord e.value).isNone)

/-- The scanned slot is a RESTOCK of the position: an anchor (R16). -/
def ScanEntry.anchors (e : ScanEntry) (i : Position) : Bool :=
  match e.record? with
  | some (.restock (some j) _ _) => j == i
  | _ => false

/-- The notes of a position after records: those a PAID, RETRACT or PURGE has drawn go, those a KEPT has added
come, and the flag says that the count would have fallen below 0 (R16). -/
def countAfter (i : Position) : List ScanEntry → Nat → Nat × Bool
  | [], n => (n, false)
  | e :: rest, n =>
    let drawn := fun (d : Nat) => let r := countAfter i rest (n - d); (r.1, r.2 || n < d)
    match e.record? with
    | some (.paid _ _ d _) => drawn (d.get i)
    | some (.retract _ _ _ d _) => drawn (d.get i)
    | some (.purge _ d _) => drawn (d.get i)
    | some (.kept added _ _) => countAfter i rest (n + added.get i)
    | _ => countAfter i rest n

/-- The record is a PAID, a RETRACT or a PURGE with a reason other than START: it ends a PICK (R17). -/
def Record.endsPick : Record → Bool
  | .paid _ _ _ _ | .retract _ _ _ _ _ => true
  | .purge reason _ _ => reason != .start
  | _ => false

/-- The record is a PICK or a START: no later record ends a PICK before it (R17). -/
def Record.cutsPick : Record → Bool
  | .pick _ _ _ | .start _ _ => true
  | _ => false

/-- A PICK followed by these slots is ended: a record that ends it comes before the next PICK or START
(R17). -/
def pickEnded (after : List ScanEntry) : Bool :=
  match (after.filterMap ScanEntry.record?).find? (fun r => r.endsPick || r.cutsPick) with
  | some r => r.endsPick
  | none => false

/-- Some PICK of the scanned slots that plans notes of the position is not ended (R17). -/
def pickOpen (i : Position) : List ScanEntry → Bool
  | [] => false
  | e :: rest =>
    (match e.record? with
      | some (.pick _ _ planned) => 0 < planned.get i && !pickEnded rest
      | _ => false) || pickOpen i rest

/-- One of the slots marks every position: unreadable, or a START that says a queue loss was possible (R17). -/
def marksAll (es : List ScanEntry) : Bool :=
  es.any (fun e => e.unreadable || (match e.record? with | some (.start _ loss) => loss | _ => false))

/-! ### Invariants -/

/-- The cells of the cartridge are in canonical form. -/
def Lane.cellsInv (l : Lane) : Prop := Memory.wf l.journal.cells = true

/-- The classes of the queued frames, in order. -/
def classesRise : List TxFrame → Bool
  | [] => true
  | [_] => true
  | f :: g :: rest => f.cls ≤ g.cls && classesRise (g :: rest)

/-- The transmit queue within the limits of R183: at most 16 frames, at most 12 of classes 2 and 3, at
most one STATUS, in the order of the classes, and at most one frame on the line. -/
def txInv (q : List TxFrame) : Prop :=
  q.length ≤ 16 ∧ (q.filter (fun f => 2 ≤ f.cls)).length ≤ 12 ∧ (q.filter (fun f => f.cls == 3)).length ≤ 1
    ∧ classesRise q = true ∧ (q.filter (·.onLine)).length ≤ 1

/-- The hold timer runs while the state is LOCKED and at no other time (R149, R153). -/
def Lane.holdInv (l : Lane) : Prop := l.lockdown.state = .locked ↔ l.lockdown.hold.isSome = true

/-- The drawer's position is that of the run in progress, or one of the three rests (R58, R59). -/
def Lane.drawerInv (l : Lane) : Prop :=
  match l.drawer.movement with
  | some m => l.drawer.position = m.position
  | none => l.drawer.position = .home ∨ l.drawer.position = .out ∨ l.drawer.position = .jammed

/-- Own cash held is 0 or the amount of the current payout, which is past STAGED and CLAIMING (R162). -/
def Lane.cashInv (l : Lane) : Prop :=
  l.ledgers.cash = 0
    ∨ ∃ p, l.payout = some p ∧ p.state ≠ .staged ∧ p.state ≠ .claiming ∧ p.amount = l.ledgers.cash

/-- An OPEN lane holds no closing cause, and the start-up scan runs only in STARTING and before homing
(R127, R188). -/
def Lane.serviceInv (l : Lane) : Prop :=
  (l.sup.service = .opened → l.sup.causes.any = false)
    ∧ (l.sup.scanning = true → l.sup.service = .starting ∧ l.sup.homing.running = false)

end Machine
end Sys2Proof
end

