-- ==== Sys2Proof/Certificates/Slice0/Obligations.lean ====
section
/-! DEFINITION. Obligations: what the provers are asked to prove of the model. A state is written `⟨q, l⟩`:
the commands that wait, and the lane. A lane after a command is written as the lane before it with the fields
that change, so that every other field is as it was; where such a field is written with the lane after, the
clauses beside it say what of it changed. -/

section

open Sys2Proof Sys2Proof.Machine

/-! ### The machine and its commands -/

/-- A step takes the command at the front of the queue and runs it with the queue's rest; no command of the
table stops the machine, and none touches the commands that wait behind it. The queue is log entry 1, and that
every command answers a next state in every lane is the model's choice, log entry 2: the specification names no
command that stops the part. -/
def Obligations.StepRunsFrontCommandToANextState : Prop :=
  (∀ (c : Instr) (q : List Instr) (l : Lane), step ⟨c :: q, l⟩ = exec c ⟨q, l⟩)
  ∧ (∀ (c : Instr) (q : List Instr) (l : Lane), ∃ m, exec c ⟨q, l⟩ = .next ⟨q, m⟩)

/-- With no command waiting, a timer that is due is taken as its expiry command. Otherwise homing goes on: from
step 1 to step 2, in which the drawer's HOMING run starts and ends at once where the HOME sensor reports, and
from step 3 to step 4, in which an envelope the mechanism holds gets the next serial, with the gate off, the
imprinter on and 5 s for the drop. Otherwise a millisecond passes and nothing else changes. What an idle step
does is the model's choice (log entries 1 and 6). -/
def Obligations.IdleStepTakesDueTimerOrTicks : Prop :=
  ∀ l : Lane,
    let homes := fun st => l.sup.service = .starting ∧ l.sup.homing.running = true ∧ l.sup.homing.step = st
    let at_ := fun st => { l.sup with homing := { l.sup.homing with step := st } }
    (∀ c rest, l.due = c :: rest → step ⟨[], l⟩ = exec c ⟨[], l⟩)
    ∧ (l.due = [] → ¬homes .module → ¬homes .escrow →
        step ⟨[], l⟩ = .next ⟨[], { l with clock := l.clock + 1 }⟩)
    ∧ (l.due = [] → homes .module → l.drawer.atEnd ≠ some .home →
        step ⟨[], l⟩ = .next ⟨[], { l with sup := at_ .drawer }.startRun .homing⟩)
    ∧ (l.due = [] → homes .module → l.drawer.atEnd = some .home →
        ∃ m, step ⟨[], l⟩ = .next ⟨[], m⟩
          ∧ m = { l with sup := at_ .drawer, drivers := m.drivers, drawer := m.drawer }
          ∧ m.drawer.position = .home ∧ m.drawer.movement = none ∧ m.drawer.travel = none
          ∧ m.drawer.counting = true ∧ m.drawer.counted = 0 ∧ m.drawer.contents = l.drawer.contents
          ∧ (m.driver .drawerIn).commanded = false ∧ (m.driver .drawerOut).commanded = false)
    ∧ (l.due = [] → homes .escrow → l.envelope.held = false →
        step ⟨[], l⟩ = .next ⟨[], { l with sup := at_ .envelope }⟩)
    ∧ (l.due = [] → homes .escrow → l.envelope.held = true →
        ∃ m, step ⟨[], l⟩ = .next ⟨[], m⟩
          ∧ m = { l with
              sup := at_ .envelope, drivers := m.drivers
              envelope := { l.envelope with
                serial := if l.envelope.serial = 65535 then 1 else l.envelope.serial + 1
                dropTimer := some (l.clock + 5000) } }
          ∧ (m.driver .envGate).commanded = false ∧ (m.driver .imprint).commanded = true)

/-- The machine after reset: every field of every block of the lane, and every invariant that the statements
below say a step keeps. The values are those that the chapter of each block says a reset leaves. The model's choices
are that State.reset is a POWER reset with its scan running; the straps (lane 0 of a wall of one) and the readings of
sensors, loops, driver stage and cartridge; and the values that no rule gives: those of the pick number, the halt,
the lost position, the replayed entries, the page map and journal state before the scan ends, the TEST fault and the
envelope that the mechanism holds (log entry 6), the clock and the time the tray reading has held (log entries 1
and 5), the counter of free values (log entry 7) and the FRESH spare reached (log entry 14). -/
def Obligations.ResetStateHoldsValuesAndInvariants : Prop :=
  (let l := State.reset.lane
   State.reset.pending = [] ∧ l.clock = 0 ∧ l.free = 0
   ∧ l.sup = { l.sup with
       service := .starting, lane := 0, laneCount := 1, resetCause := .power, queueLoss := true
       powerLost := true, converterFault := false, scanning := true, homing := ⟨false, .module, 0, 0, 0, none⟩
       testRun := none, testFault := false, clearing := none, setupConsole := none, pending := l.settings
       wallBase := none }
   ∧ l.sup.causes.any = false ∧ (∀ n, l.sup.driverTest.get n = false)
   ∧ l.payout = none ∧ l.intake = none
   ∧ (∀ i, l.cass.entry.get i = ⟨.unused, none, 0, none, 2000, 100, .unused, 0, none, none⟩)
   ∧ l.cass.bin = ⟨0, 300⟩ ∧ (∀ k, l.cass.denominations.get k = none) ∧ (∀ i, l.cass.present.get i = true)
   ∧ (∀ i, l.cass.replay.get i = ⟨false, 0, none, none, [], true⟩)
   ∧ l.transport = ⟨[], [], 0, false, none, none, ⟨.empty, 0, 0⟩⟩
   ∧ l.drawer =
       { position := .retracting, movement := some .homing, contents := .empty, owner := none
         lastOwnerTag := none, presented := 0, counted := 0, waiting := false, counting := false
         receiving := false, travel := none, take := none, wait := none, takeFilter := none
         placementFilter := none, tray := false, traySince := 0, atEnd := none }
   ∧ l.envelope =
       { path := .idle, record := none, slotTimer := none, entryFilter := none, dropTimer := none
         entry := false, held := false, serial := 0, service := none, phase := .noService, epoch := 0 }
   ∧ l.journal =
       { cells := [], present := true, queue := [], headSequence := none, op := none, writePage := none
         nextSlot := 1, voids := 0, nextPrimary := 3968, lastPageSequence := 0, priorPageSequence := 0
         spares := [], orderSpare := none, reserved := 0, highest := 0, state := .fault, lost := false }
   ∧ l.lockdown = ⟨.clear, none, []⟩
   ∧ l.ledgers = { l.ledgers with
       cash := 0, places := 0, announce := none, silence := none, isolated := false }
   ∧ (∀ n, l.ledgers.peer.get n =
       { state := if n = 0 then .self else .absent, cash := 0, places := 0, wall := none, safe := none
         lock := none, service := none, heard := false, heardAt := 0, deadline := none })
   ∧ l.bus = ⟨[], 0, .no, none⟩
   ∧ l.loops.hits = [] ∧ (∀ n, l.loops.entry.get n = ⟨0#8, none, none, false, 0⟩)
   ∧ l.drivers.hot = false ∧ l.drivers.strobeMinOn = none ∧ l.drivers.lampHold = none
   ∧ (∀ d, let empty : FaultSet := ⟨false, false, false, false, false⟩
       l.driver d = ⟨false, true, empty, empty, none, empty⟩ ∧ (l.driver d).output = false)
   ∧ l.settings = { l.settings with
       wall := 20000, cap := 5000, safe := 1500, announce := 2, takeTimeout := 30, intakeWait := 45
       slotTimeout := 45, escrowTimeout := 180, lockdownHold := 300, vibration := 4, strobeMinOn := 2
       binCapacity := 300, policy := .retract, safeLane := false, attending := none, supervisor := none }
   ∧ (∀ i, l.settings.position.get i = ⟨.unused, none, 2000, 100⟩)
   ∧ (∀ k, l.settings.denominations.get k = none)
   ∧ (∀ n, l.settings.loop.get n = ⟨.spare, false, .ms200⟩)
   ∧ (∀ d : Driver, l.settings.diagnostics.get d.index = true))
  ∧ (State.reset.lane.cellsInv ∧ txInv State.reset.lane.bus.queue ∧ State.reset.lane.holdInv
     ∧ State.reset.lane.drawerInv ∧ State.reset.lane.cashInv ∧ State.reset.lane.serviceInv)

/-- A request that the decoder does not take changes nothing; one from a console that may not send it is
answered NOT_PERMITTED and changes nothing else. -/
def Obligations.RequestsNeedTheirConsole : Prop :=
  ∀ (c : Instr) (h : Sender) (q : List Instr) (l : Lane), c.sender = some h →
    (l.takes h = false → exec c ⟨q, l⟩ = .next ⟨q, l⟩)
    ∧ (∀ k, l.takes h = true → c.attendingOnly = some k → l.settings.attending ≠ some h.source →
        exec c ⟨q, l⟩ = .next ⟨q, l.sending [replyTo h k .notPermitted]⟩)
    ∧ (∀ k, l.takes h = true → c.supervisorOnly = some k → l.settings.supervisor ≠ some h.source →
        exec c ⟨q, l⟩ = .next ⟨q, l.sending [replyTo h k .notPermitted]⟩)

/-! ### Invariants that every step keeps -/

/-- Every step keeps the cells of the cartridge in canonical form. -/
def Obligations.StepKeepsCartridgeCanonical : Prop :=
  ∀ s t : State, s.lane.cellsInv → step s = .next t → t.lane.cellsInv

/-- No step sets a bit of the cartridge, but for the insertion of another cartridge. -/
def Obligations.StepNeverSetsCartridgeBits : Prop :=
  ∀ s t : State, s.lane.cellsInv →
    (∀ cells q, s.pending ≠ .cartridgeInsertion (some cells) :: q) →
    step s = .next t →
    ∀ a, Memory.read t.lane.journal.cells a &&& Memory.read s.lane.journal.cells a
      = Memory.read t.lane.journal.cells a

/-- Every step keeps the transmit queue within its limits and in the order of the classes. -/
def Obligations.StepKeepsTransmitQueueLimits : Prop :=
  ∀ s t : State, txInv s.lane.bus.queue → step s = .next t → txInv t.lane.bus.queue

/-- Every step keeps the hold timer running while the lane is LOCKED and at no other time. -/
def Obligations.StepKeepsHoldTimerWithLocked : Prop :=
  ∀ s t : State, s.lane.holdInv → step s = .next t → t.lane.holdInv

/-- Every step keeps the drawer's position that of its run, or HOME, OUT or JAMMED without a run. -/
def Obligations.StepKeepsDrawerPositionWithRun : Prop :=
  ∀ s t : State, s.lane.drawerInv → step s = .next t → t.lane.drawerInv

/-- Every step keeps own cash held at 0 or at the amount of a payout that the wall has admitted. -/
def Obligations.StepKeepsCashWithItsPayout : Prop :=
  ∀ s t : State, s.lane.cashInv → step s = .next t → t.lane.cashInv

/-- Every step keeps an OPEN lane free of closing causes, and the start-up scan before homing. -/
def Obligations.StepKeepsOpenLaneWithoutCause : Prop :=
  ∀ s t : State, s.lane.serviceInv → step s = .next t → t.lane.serviceInv

/-- A FAILED lane leaves that state by a POWER or a LINE reset alone. A lane becomes OPEN by a LANE open
alone, as a command or as a received frame of kind LANE with action OPEN and no flag, with the lockdown state
CLEAR and no closing cause held. -/
def Obligations.FailedAndOpenChangeByTheirCommandsAlone : Prop :=
  (∀ s t : State, s.lane.sup.service = .failed → step s = .next t →
     t.lane.sup.service = .failed ∨
       ∃ inp q, s.pending = .powerReset inp :: q ∨ s.pending = .lineReset inp :: q)
  ∧ (∀ s t : State, s.lane.sup.service ≠ .opened → step s = .next t → t.lane.sup.service = .opened →
     (∃ q, (∃ h, s.pending = .laneOpen h :: q) ∨ (∃ f, s.pending = .frameReceived f :: q
         ∧ f.kind = 19 ∧ f.payload = [1#8, 0#8]))
     ∧ t.lane.lockdown.state = .clear ∧ t.lane.sup.causes.any = false)

/-! ### Shared operations -/

/-- How a frame joins the transmit queue: in the order of classes behind the frames of its own, within the
limits of its class, in the place of a frame it may displace, or not at all. -/
def Obligations.TransmitQueueJoinRules : Prop :=
  (∀ (f : TxFrame) (a b : List TxFrame), (∀ g ∈ a, g.cls ≤ f.cls) → (∀ g ∈ b, f.cls < g.cls) →
    txInsert f (a ++ b) = a ++ f :: b)
  ∧ ∀ (f : TxFrame) (q : List TxFrame),
    (f.cls ≤ 1 →
      (q.length < 16 → txJoin q f = (txInsert f q, false))
      ∧ (16 ≤ q.length →
          (∀ a x b, q = a ++ x :: b → x.cls = 3 → x.onLine = false →
            (∀ y ∈ b, ¬(y.cls = 3 ∧ y.onLine = false)) → txJoin q f = (txInsert f (a ++ b), false))
          ∧ ((∀ y ∈ q, ¬(y.cls = 3 ∧ y.onLine = false)) →
              (∀ a x b, q = a ++ x :: b → x.cls = 2 → x.onLine = false →
                (∀ y ∈ b, ¬(y.cls = 2 ∧ y.onLine = false)) → txJoin q f = (txInsert f (a ++ b), false))
              ∧ ((∀ y ∈ q, ¬(y.cls = 2 ∧ y.onLine = false)) → txJoin q f = (q, true)))))
    ∧ (f.cls = 2 →
      (txLow q < 12 ∧ q.length < 16 → txJoin q f = (txInsert f q, false))
      ∧ (¬(txLow q < 12 ∧ q.length < 16) →
          (∀ a x b, q = a ++ x :: b → x.cls = 3 → x.onLine = false →
            (∀ y ∈ b, ¬(y.cls = 3 ∧ y.onLine = false)) → txJoin q f = (txInsert f (a ++ b), false))
          ∧ ((∀ y ∈ q, ¬(y.cls = 3 ∧ y.onLine = false)) → txJoin q f = (q, false))))
    ∧ (f.cls = 3 →
      ((∀ y ∈ q, y.cls ≠ 3) →
        (txLow q < 12 ∧ q.length < 16 → txJoin q f = (txInsert f q, false))
        ∧ (¬(txLow q < 12 ∧ q.length < 16) → txJoin q f = (q, false)))
      ∧ (∀ a x b, q = a ++ x :: b → x.cls = 3 → (∀ y ∈ a, y.cls ≠ 3) → (∀ y ∈ b, y.cls ≠ 3) →
          txJoin q f = (a ++ (if x.onLine then { x with again := true } else f) :: b, false)))

/-- An owner's command reaches its driver alone: the output follows unless OVERLOAD or HOT is latched, and a
switch drops the live conditions but HOT and starts 10 ms of blanking. -/
def Obligations.CommandSwitchesItsDriver : Prop :=
  ∀ (l : Lane) (d : Driver) (on : Bool),
    let e := l.driver d
    let e' := (l.command d on).driver d
    l.command d on = { l with drivers := { l.drivers with entry := (l.command d on).drivers.entry } }
    ∧ (∀ d', d' ≠ d → (l.command d on).driver d' = l.driver d')
    ∧ e'.commanded = on ∧ e'.latched = e.latched ∧ e'.diagnostics = e.diagnostics ∧ e'.stage = e.stage
    ∧ e'.output = (on && !(e.latched.overload || e.latched.hot))
    ∧ (e'.output = e.output → e'.live = e.live ∧ e'.blanking = e.blanking)
    ∧ (e'.output ≠ e.output →
        e'.live = ⟨false, false, false, false, e.live.hot⟩ ∧ e'.blanking = some (l.clock + 10))

/-- A drawer run switches its own driver on and the other off and times 4 s; at its end sensor the driver
goes off and the drawer rests at that end. -/
def Obligations.DrawerRunStartsAndEnds : Prop :=
  ∀ (l : Lane) (m : Movement),
    let out := m = .extend
    l.startRun m = { l with
      drivers := (l.startRun m).drivers
      drawer := { l.drawer with
        position := if out then .extending else .retracting
        movement := some m
        travel := some (l.clock + 4000)
        take := none, wait := none, takeFilter := none, placementFilter := none } }
    ∧ ((l.startRun m).driver .drawerOut).commanded = decide out
    ∧ ((l.startRun m).driver .drawerIn).commanded = !decide out
    ∧ l.endRun m = { l with
      drivers := (l.endRun m).drivers
      drawer := { l.drawer with
        position := if out then .out else .home, movement := none, travel := none } }
    ∧ ((l.endRun m).driver (if out then .drawerOut else .drawerIn)).commanded = false
    ∧ ∀ d, d ≠ .drawerOut → d ≠ .drawerIn →
        (l.startRun m).driver d = l.driver d ∧ (l.endRun m).driver d = l.driver d

/-- A reservation is granted while the journal is READY or LOW, six slots stay free beyond the reserved
ones, and the write queue has room; it adds its slots, and slots returned are taken off, the state following
from the free and reserved slots. -/
def Obligations.ReservationsKeepTheReserve : Prop :=
  (∀ (l : Lane) (n : Nat),
    l.canReserve n = true ↔
      (l.journal.state = .ready ∨ l.journal.state = .low)
      ∧ l.journal.reserved + n + 6 ≤ l.journal.free
      ∧ l.journal.queue.length + l.heldSlots + n ≤ 16)
  ∧ (∀ (l : Lane) (n : Nat), l.reserve n = l.reserving (l.journal.reserved + n)
      ∧ l.giveBack n = if n = 0 then l else l.reserving (l.journal.reserved - n))
  ∧ ∀ (j : Journal) (n : Nat), (j.state = .ready ∨ j.state = .low ∨ j.state = .full) → n ≤ j.free →
      j.withReserved n = { j with
        reserved := n
        state := if j.free ≤ n + 6 then .full else if j.free ≤ 1024 then .low else .ready }

/-- A programming clears bits and sets none: each of the slot's sixteen bytes becomes the AND of what it held
and what is programmed, and every other byte of the cartridge reads as before. -/
def Obligations.ProgrammingGivesTheAnd : Prop :=
  ∀ (m : List Host.Cell) (page slot : Nat) (v : SlotBits), Memory.wf m = true →
    Memory.readSlot (Memory.program m page slot v) page slot = Memory.readSlot m page slot &&& v
    ∧ (∀ k, k < 16 → Memory.read (Memory.program m page slot v) (page * 256 + slot * 16 + k)
        = Memory.read m (page * 256 + slot * 16 + k) &&& BitVec.ofNat 8 (v.toNat / 256 ^ (15 - k)))
    ∧ (∀ a, a < page * 256 + slot * 16 ∨ page * 256 + slot * 16 + 16 ≤ a →
        Memory.read (Memory.program m page slot v) a = Memory.read m a)
    ∧ Memory.wf (Memory.program m page slot v) = true

/-- What the lane says: a REPLY goes to the request's source with its tag, a notice for both consoles is one
frame when they are the same and none for a console not yet named, and a STATUS restarts the announce timer
in the service states that announce. Tag 0 in
a notice and a STATUS is the model's choice (log entry 22). -/
def Obligations.FramesGoToTheirStations : Prop :=
  (∀ (l : Lane) (h : Sender) (k : Fin 32) (c : ReplyCode) (b : ReplyBody),
    l.reply h k c b = l.sending [⟨.reply k c b, h.source, h.tag⟩])
  ∧ (∀ (l : Lane) (n : Notice),
    l.noticeBoth n =
      match l.settings.attending, l.settings.supervisor with
      | none, none => l
      | some a, none => l.sending [⟨.notice n, a, 0⟩]
      | none, some b => l.sending [⟨.notice n, b, 0⟩]
      | some a, some b =>
        if a = b then l.sending [⟨.notice n, a, 0⟩] else l.sending [⟨.notice n, a, 0⟩, ⟨.notice n, b, 0⟩])
  ∧ ∀ l : Lane,
    l.queueStatus =
      if l.sup.service = .setup ∨ l.sup.service = .closed ∨ l.sup.service = .opened then
        { l.sending [⟨.status none, 15, 0⟩] with
          ledgers := { l.ledgers with announce := some (l.clock + l.settings.announce * 1000) } }
      else l

/-! ### Resets, start-up and the lane supervisor -/

/-- POWER_RESET, LINE_RESET and a RESTART taken in CLOSED clear every block, whatever the lane was doing: the
cassette table, bin and denominations, the transport, the drawer record, the envelope path with its timers,
serial and epoch, the page map and write queue, the loops, the drivers with their fault sets, blanking, strobe
and lamp timers, the lockdown, the ledgers, the bus and the settings, as ResetLeaves writes them out, with what
self-test steps 1 to 4 and a hot sensor then make of them. They differ in the cause, in POWER_LOST and in the
queue loss flag, which a RESTART with an empty write queue leaves clear. A self-test step 1 or 2 that fails
leaves the lane FAILED. A RESTART in any other service state is refused STATE. That one command takes the whole
reset, and that sensors, cartridge and straps keep their readings, is the model's choice (log entries 5 and
6). -/
def Obligations.ResetsClearEveryBlock : Prop :=
  ∀ (inp : ResetInputs) (q : List Instr) (l : Lane),
    (∃ m, exec (.powerReset inp) ⟨q, l⟩ = .next ⟨q, m⟩ ∧ ResetLeaves l m inp .power true)
    ∧ (∃ m, exec (.lineReset inp) ⟨q, l⟩ = .next ⟨q, m⟩ ∧ ResetLeaves l m inp .line true)
    ∧ (∀ h, l.fromSupervisor h = true → l.sup.service = .closed →
        ∃ m, exec (.restart h inp) ⟨q, l⟩ = .next ⟨q, m⟩
          ∧ ResetLeaves l m inp .restart (!l.journal.queue.isEmpty))
    ∧ (∀ h, l.fromSupervisor h = true → l.sup.service ≠ .closed →
        exec (.restart h inp) ⟨q, l⟩ = .next ⟨q, l.sending [replyTo h 21 .state]⟩)

/-- The end of the start-up scan seals every full OPEN page of the logical order, or makes its header RETIRED where
that does not verify, and programs nothing else. It sets the page map: the write page and next slot where the logical
order ends, the voided and damaged slots of that page, the free slots left in it and in the primary pages not yet
reached, the spares whose headers are not FRESH, the last page sequence and the highest sequence of a GOOD slot. It
gives the blocks what the replay found: a position with no RESTOCK nothing and SUSPECT; another the count,
denomination and sequence of its last RESTOCK, the later records taken off or added, and SUSPECT where the count fell
short, a slot after it is unreadable, a later START or this reset may have lost records, or a PICK that names it is
not ended; the bin the notes binned since its RESTOCK, and the serial, places and epoch of the last ENVELOPE and
SAFE_EMPTIED. With no cartridge the journal is ABSENT, no slot is free, and the blocks take the values of a start
without replay. Homing then begins with its step 1. When no scan runs the command changes nothing: the model's choice
(log entry 2); that a PICK marks its positions whatever RESTOCK follows, and that a gap in the sequence numbers marks
none, is log entry 15. Log entry 14 has the choices on the scan's pages: a full OPEN page sealed however many of its
slots are voided or damaged, their order past a redirect to a FRESH spare, FRESH for a header of all ones alone, numbers past
their ranges, the pages past the end of the walk, and that the presence of a cartridge is looked at here and not at
the reset. -/
def Obligations.ScanEndsWithOrWithoutReplay : Prop :=
  (∀ (es : List ScanEntry) (loss : Bool),
    let r := replay es loss
    let newestFirst := (es.filterMap ScanEntry.record?).reverse
    (∀ i, (∀ e ∈ es, e.anchors i = false) → r.entry.get i = ⟨false, 0, none, none, [], true⟩)
    ∧ (∀ i before e after d n, es = before ++ e :: after → e.record? = some (.restock (some i) d n) →
        (∀ e' ∈ after, e'.anchors i = false) →
        r.entry.get i =
          ⟨true, (countAfter i after n).1, d, some (slotSequence e.value),
            after.filterMap (fun e' => match e'.record? with
              | some (.kept added v1 v2) => some ⟨added, v1, v2⟩
              | _ => none),
            (countAfter i after n).2 || marksAll after || pickOpen i es || loss⟩)
    ∧ r.bin = ((newestFirst.takeWhile
        (fun x => match x with | .restock none _ _ => false | _ => true)).map (fun x => match x with
          | .paid _ _ _ b => b
          | .retract _ _ _ _ b => b
          | .purge _ _ b => b
          | .capture _ b => b
          | _ => 0)).sum
    ∧ r.serial = (newestFirst.findSome?
        (fun x => match x with | .envelope serial _ => some serial | _ => none)).getD 0
    ∧ r.epoch = (newestFirst.findSome?
        (fun x => match x with | .safeEmptied epoch => some epoch | _ => none)).getD 0
    ∧ r.places = ((newestFirst.takeWhile
        (fun x => match x with | .safeEmptied _ => false | _ => true)).filter
          (fun x => match x with | .envelope _ _ => true | _ => false)).length)
  ∧ ∀ (q : List Instr) (l : Lane),
    (l.sup.scanning = false → exec .journalScanComplete ⟨q, l⟩ = .next ⟨q, l⟩)
    ∧ (l.sup.scanning = true → ∃ m, exec .journalScanComplete ⟨q, l⟩ = .next ⟨q, m⟩
      ∧ m = { l with sup := m.sup, cass := m.cass, journal := m.journal, envelope := m.envelope
                     ledgers := m.ledgers }
      ∧ m.sup = { l.sup with
          scanning := false, homing := { l.sup.homing with running := true, step := .module }
          causes := m.sup.causes }
      ∧ m.envelope = { l.envelope with serial := m.envelope.serial, epoch := m.envelope.epoch }
      ∧ m.cass = { l.cass with replay := m.cass.replay, bin := m.cass.bin }
      ∧ m.ledgers = { l.ledgers with places := m.ledgers.places }
      ∧ m.journal.queue = l.journal.queue
      ∧ (l.journal.present = true →
          let r := replay (walk true l.journal.cells).entries l.sup.queueLoss
          let sealed := fun (p : Nat) => pageKind l.journal.cells p = .opened ∧ pageFull l.journal.cells p = true
          m.sup.causes = l.sup.causes
          ∧ m.cass.replay = r.entry ∧ m.cass.bin.count = r.bin ∧ m.ledgers.places = r.places
          ∧ m.envelope.serial = r.serial ∧ m.envelope.epoch = r.epoch
          ∧ m.journal = { m.journal with
              present := true, queue := l.journal.queue, headSequence := l.journal.headSequence, op := none
              reserved := 0, lost := false, state := journalStateOf m.journal.free 0 }
          ∧ (∀ p, p ∈ m.journal.spares ↔ 3968 ≤ p ∧ p < 4096 ∧ pageKind m.journal.cells p ≠ .fresh)
          ∧ ∀ pages e, l.cellsInv → LogicalOrder l.journal.cells pages e →
              m.journal.writePage = e.openPage ∧ m.journal.orderSpare = e.freshSpare
              ∧ m.journal.nextPrimary = e.nextPrimary
              ∧ (e.openPage = none → m.journal.nextSlot = 1 ∧ m.journal.voids = 0
                  ∧ m.journal.free = 15 * (3968 - e.nextPrimary)
                  ∧ m.journal.lastPageSequence = lastSequence l.journal.cells pages
                  ∧ m.journal.priorPageSequence = lastSequence l.journal.cells pages)
              ∧ (∀ before p, pages = before ++ [p] → e.openPage = some p →
                  m.journal.nextSlot = (slotsInOrder l.journal.cells p).length + 1
                  ∧ m.journal.free = 15 - (slotsInOrder l.journal.cells p).length + 15 * (3968 - e.nextPrimary)
                  ∧ m.journal.lastPageSequence = headerSequence (Memory.readSlot l.journal.cells p 0)
                  ∧ m.journal.priorPageSequence = lastSequence l.journal.cells before
                  ∧ m.journal.voids = ((slotsInOrder l.journal.cells p).filter
                      (fun s => statusInOrder l.journal.cells before p s != .good)).length)
              ∧ (∀ p, p ∈ pages → sealed p →
                  let pattern := headerSealed (sealCheck l.journal.cells p)
                  let header := Memory.readSlot l.journal.cells p 0
                  Memory.readSlot m.journal.cells p 0 =
                    if header &&& pattern = headerOpen (headerSequence header) &&& pattern then header &&& pattern
                    else header &&& pattern &&& headerRetired none)
              ∧ (∀ a, (∀ p, p ∈ pages → sealed p → a < p * 256 ∨ p * 256 + 16 ≤ a) →
                  Memory.read m.journal.cells a = Memory.read l.journal.cells a)
              ∧ (∀ before p after s, pages = before ++ p :: after →
                  (p, s) ∈ usedInOrder l.journal.cells pages →
                  statusInOrder l.journal.cells before p s = .good →
                  slotSequence (Memory.readSlot l.journal.cells p s) ≤ m.journal.highest)
              ∧ (m.journal.highest = 0 ∨ ∃ before p after s, pages = before ++ p :: after
                  ∧ (p, s) ∈ usedInOrder l.journal.cells pages
                  ∧ statusInOrder l.journal.cells before p s = .good
                  ∧ slotSequence (Memory.readSlot l.journal.cells p s) = m.journal.highest))
      ∧ (l.journal.present = false →
          m.sup.causes = { l.sup.causes with journal := true }
          ∧ m.cass.replay = Four.replicate ReplayEntry.unanchored ∧ m.cass.bin.count = 400
          ∧ m.ledgers.places = 5000 ∧ m.envelope.serial = 0 ∧ m.envelope.epoch = 0
          ∧ m.journal.state = .absent ∧ m.journal.free = 0 ∧ m.journal.cells = l.journal.cells))

/-- The end of homing: with room in the write queue, the records homing made join it unreserved, START last and the
held LOCKDOWN records behind it; the lane is in SETUP, the silence and announce timers run and a STATUS is
queued. Where the drawer, the tray's count or a carried envelope has not reported its end, it is taken as home,
empty and dropped, and a held envelope is carried: the next serial, its record, and one place more. That
homing's end is taken as one command, and these readings of what has not reported, are the model's choice (log
entry 6). -/
def Obligations.HomingEndsInSetup : Prop :=
  ∀ (q : List Instr) (l : Lane),
    l.sup.service = .starting → l.sup.homing.running = true →
    (l.sup.homing.step = .envelope → l.envelope.dropTimer = none → l.envelope.held = false →
      l.drawer.movement ≠ some .homing → l.drawer.counting = false →
      l.journal.queue.length + l.heldSlots + l.startRecords.length ≤ 16 →
      exec .homingComplete ⟨q, l⟩ = .next ⟨q, { l with
          sup := { l.sup with service := .setup, homing := { l.sup.homing with running := false } }
          journal := { l.journal with
            queue := l.journal.queue
              ++ l.startRecords.map (fun r => { record := r, seconds := l.wallSeconds, reserved := false }) }
          lockdown := { l.lockdown with heldRecords := [] }
          ledgers := { l.ledgers with
            silence := some (l.clock + 5 * l.settings.announce * 1000)
            announce := some (l.clock + l.settings.announce * 1000) }
          bus := { l.bus with queue := queued l.bus.queue [toEvery (.status none) 0] } }⟩)
    ∧ (l.journal.queue.length + l.heldSlots + 5 + l.lockdown.heldRecords.length ≤ 16 →
      let carries := l.sup.homing.envelope = none ∧ (l.envelope.dropTimer.isSome = true ∨ l.envelope.held = true)
      let serial := if l.envelope.dropTimer.isSome then l.envelope.serial
        else if l.envelope.serial = 65535 then 1 else l.envelope.serial + 1
      ∃ m, exec .homingComplete ⟨q, l⟩ = .next ⟨q, m⟩
        ∧ m = { l with
            sup := { l.sup with service := .setup, homing := m.sup.homing }
            drawer := m.drawer, drivers := m.drivers, envelope := m.envelope
            journal := { l.journal with
              queue := l.journal.queue ++ ({ l with sup := m.sup } : Lane).startRecords.map
                (fun r => { record := r, seconds := l.wallSeconds, reserved := false }) }
            lockdown := { l.lockdown with heldRecords := [] }
            ledgers := { l.ledgers with
              places := if carries then l.ledgers.places + 1 else l.ledgers.places
              silence := some (l.clock + 5 * l.settings.announce * 1000)
              announce := some (l.clock + l.settings.announce * 1000) }
            bus := { l.bus with queue := queued l.bus.queue [toEvery (.status none) 0] } }
        ∧ m.sup.homing = { l.sup.homing with
            running := false, step := m.sup.homing.step
            envelope := if carries then some serial else l.sup.homing.envelope }
        ∧ m.drawer.movement ≠ some .homing ∧ m.drawer.counting = false
        ∧ (l.sup.homing.step = .module ∨ l.drawer.movement = some .homing →
            m.drawer.position = .home ∧ (m.driver .drawerIn).commanded = false)
        ∧ m.envelope = { l.envelope with
            serial := if carries then serial else l.envelope.serial
            dropTimer := if carries then none else l.envelope.dropTimer
            held := if carries then false else l.envelope.held }
        ∧ (carries → (m.driver .imprint).commanded = false)
        ∧ (carries → l.envelope.dropTimer = none → (m.driver .envGate).commanded = false))

/-- SETUP is tested for the service state, the sender and the item, in that order; an item taken is held as pending,
its sender is the setup console, and the REPLY is DONE. A numeric setting outside its range is brought to the
nearer limit; a code of the items 12 and 17 to 24 is set where its rule lists it, to the position, loop, driver or
place the selector names; a code outside its set, a selector that names nothing, a selector other than 0 for an
item without one, and an item above 25 give no setting. The two answers for a selector an item does not take,
and codes 0 and 1 for yes and no, are the model's choice (log entry 10). -/
def Obligations.SetupHoldsOneItemWithinItsRange : Prop :=
  (∀ (h : Sender) (item sel : Byte) (v : BitVec 32) (q : List Instr) (l : Lane), l.takes h = true →
     let tests : List (Bool × ReplyCode) :=
       [(l.sup.service != .setup, .state),
        (l.sup.setupConsole != none && l.sup.setupConsole != some h.source, .notPermitted),
        (l.sup.pending.withItem item.toNat sel.toNat v.toNat == none, .malformed)]
     (∀ code, firstFailing tests = some code →
       exec (.setup h item sel v) ⟨q, l⟩ = .next ⟨q, l.sending [replyTo h 23 code]⟩)
     ∧ (∀ p, firstFailing tests = none → l.sup.pending.withItem item.toNat sel.toNat v.toNat = some p →
       exec (.setup h item sel v) ⟨q, l⟩ = .next ⟨q, { l.sending [replyTo h 23 .done] with
         sup := { l.sup with
           pending := p, setupConsole := some h.source
           wallBase := if item = 25#8 then some (v.toNat, l.clock) else l.sup.wallBase } }⟩))
  ∧ (∀ (s : Settings) (v : Nat),
     let near := fun lo hi => if v < lo then lo else if hi < v then hi else v
     s.withItem 0 0 v = some { s with wall := near 1000 500000 }
     ∧ s.withItem 1 0 v = some { s with cap := near 100 500000 }
     ∧ s.withItem 2 0 v = some { s with safe := near 100 5000 }
     ∧ s.withItem 3 0 v = some { s with announce := near 1 10 }
     ∧ s.withItem 4 0 v = some { s with takeTimeout := near 10 120 }
     ∧ s.withItem 5 0 v = some { s with intakeWait := near 15 120 }
     ∧ s.withItem 6 0 v = some { s with slotTimeout := near 15 120 }
     ∧ s.withItem 7 0 v = some { s with escrowTimeout := near 30 600 }
     ∧ s.withItem 8 0 v = some { s with lockdownHold := near 60 1800 }
     ∧ s.withItem 9 0 v = some { s with vibration := near 2 8 }
     ∧ s.withItem 10 0 v = some { s with strobeMinOn := near 1 3 }
     ∧ s.withItem 11 0 v = some { s with binCapacity := near 100 400 }
     ∧ (∀ i : Position,
         s.withItem 13 i.val v
           = some { s with position :=
               s.position.set i { s.position.get i with denomination := some (near 1 1000) } }
         ∧ s.withItem 14 i.val v
           = some { s with position := s.position.set i { s.position.get i with capacity := near 100 2500 } }
         ∧ s.withItem 15 i.val v
           = some { s with position := s.position.set i { s.position.get i with lowMark := near 0 2500 } })
     ∧ (∀ i : ListIndex,
         s.withItem 16 i.val v = some { s with denominations := s.denominations.set i (some (near 1 1000)) })
     ∧ s.withItem 25 0 v = some s
     ∧ (∀ (i : Position) (m : CassMode), s.withItem 12 i.val m.code
         = some { s with position := s.position.set i { s.position.get i with mode := m } })
     ∧ (∀ (n : LoopNo) (r : LoopRole), s.withItem 17 n.val r.code
         = some { s with loop := s.loop.set n { s.loop.get n with role := r } })
     ∧ (∀ n : LoopNo, s.withItem 18 n.val 0
           = some { s with loop := s.loop.set n { s.loop.get n with supervised := true } }
         ∧ s.withItem 18 n.val 1
           = some { s with loop := s.loop.set n { s.loop.get n with supervised := false } })
     ∧ (∀ (n : LoopNo) (t : FilterTime), s.withItem 19 n.val t.code
         = some { s with loop := s.loop.set n { s.loop.get n with filter := t } })
     ∧ (∀ d : Driver, s.withItem 20 d.index.val 0
           = some { s with diagnostics := s.diagnostics.set d.index true }
         ∧ s.withItem 20 d.index.val 1 = some { s with diagnostics := s.diagnostics.set d.index false })
     ∧ s.withItem 21 0 0 = some { s with policy := .retract }
     ∧ s.withItem 21 0 1 = some { s with policy := .leave }
     ∧ s.withItem 22 0 0 = some { s with safeLane := true }
     ∧ s.withItem 22 0 1 = some { s with safeLane := false }
     ∧ (∀ c : Station, 8 ≤ c.val → c.val ≤ 14 → s.withItem 23 0 c.val = some { s with attending := some c }
         ∧ s.withItem 24 0 c.val = some { s with supervisor := some c })
     ∧ (∀ sel, 4 ≤ sel → s.withItem 12 sel v = none ∧ s.withItem 13 sel v = none
         ∧ s.withItem 14 sel v = none ∧ s.withItem 15 sel v = none)
     ∧ (∀ sel, 8 ≤ sel → s.withItem 16 sel v = none ∧ s.withItem 17 sel v = none
         ∧ s.withItem 18 sel v = none ∧ s.withItem 19 sel v = none ∧ s.withItem 20 sel v = none)
     ∧ (∀ sel item, sel ≠ 0 → item ≤ 11 ∨ 21 ≤ item → s.withItem item sel v = none)
     ∧ (∀ sel item, 25 < item → s.withItem item sel v = none)
     ∧ (∀ sel, (4 ≤ v → s.withItem 12 sel v = none) ∧ (6 ≤ v → s.withItem 17 sel v = none)
         ∧ (2 ≤ v → s.withItem 18 sel v = none ∧ s.withItem 20 sel v = none ∧ s.withItem 21 sel v = none
             ∧ s.withItem 22 sel v = none)
         ∧ (4 ≤ v → s.withItem 19 sel v = none)
         ∧ (v < 8 ∨ 14 < v → s.withItem 23 sel v = none ∧ s.withItem 24 sel v = none)))

/-- SETUP_DONE is refused outside SETUP and from any console but the setup console; then the first of the six checks
of R193 that fails gives its number and nothing changes. One that passes makes the pending settings those in force,
the low marks lowered to their capacities; the cassette table takes them with the replay: an UNUSED position counts
0, a used one the replayed count up to its capacity, SUSPECT where the replay marks it, its anchor's denomination is
not the setting's or the count passed the capacity, OUT where the sensor reports no cassette, and the derived state
otherwise. The loops start their filters, the drivers take their diagnostics, every UNKNOWN peer gets its listen
deadline, a running silence timer runs to 5 of the new periods (DEDUCED, log entry 18), and the lane is CLOSED with
the shutter following.

The frames it queues: one NOTICE CASSETTE_CHANGE for each position and for the bin, one NOTICE DRIVER_FAULT for each
driver with a latched fault, NOTICE MISMATCH where the views differ, the safe lane's END_NO_EMPTY, the STATUS of the
change, and the REPLY DONE. The order of those of one class is the model's (DEDUCED, log entry 18), as are the body
of zeros of the REPLY STATE outside SETUP (log entry 21) and that an OPEN_OFF no longer checked leaves the live set
that the notice tells (log entry 10). -/
def Obligations.SetupDoneChecksAndApplies : Prop :=
  ((∀ s : Settings, s.failedCheck = firstFailing
     [(decide (s.wall < s.cap), 1),
      (positions.any (fun i => ((s.position.get i).mode == .dispense || (s.position.get i).mode == .recycle)
         && (s.position.get i).denomination == none), 2),
      (eightNumbers.any (fun i => eightNumbers.any (fun j => i != j && s.denominations.get i != none
         && s.denominations.get i == s.denominations.get j)), 3),
      (positions.any (fun i => (s.position.get i).mode == .recycle
         && eightNumbers.all (fun j => s.denominations.get j != (s.position.get i).denomination)), 4),
      ((eightNumbers.filter (fun n => (s.loop.get n).role == .safeDoor)).length
         != (if s.safeLane then 1 else 0), 5),
      (s.attending == none || s.supervisor == none, 6)])
   ∧ ∀ (h : Sender) (q : List Instr) (l : Lane), l.takes h = true →
     (l.sup.service ≠ .setup →
       exec (.setupDone h) ⟨q, l⟩ = .next ⟨q, l.sending [replyTo h 24 .state]⟩)
     ∧ (l.sup.service = .setup → l.sup.setupConsole ≠ some h.source →
       exec (.setupDone h) ⟨q, l⟩ = .next ⟨q, l.sending [replyTo h 24 .notPermitted]⟩)
     ∧ (∀ n, l.sup.service = .setup → l.sup.setupConsole = some h.source →
       l.sup.pending.failedCheck = some n →
       exec (.setupDone h) ⟨q, l⟩ = .next ⟨q, l.sending [replyTo h 24 .state (.checkNumber n)]⟩))
  ∧ (∀ (h : Sender) (q : List Instr) (l : Lane), l.takes h = true →
     l.sup.service = .setup → l.sup.setupConsole = some h.source → l.sup.pending.failedCheck = none →
     let lowered := l.sup.pending.position.map (fun p => { p with lowMark := min p.lowMark p.capacity })
     let set : Settings := { l.sup.pending with position := lowered }
     ∃ m, exec (.setupDone h) ⟨q, l⟩ = .next ⟨q, m⟩
       ∧ m = { l with
           sup := { l.sup with service := .closed, setupConsole := none }
           settings := set
           cass := { l.cass with
             entry := m.cass.entry
             bin := { l.cass.bin with capacity := max set.binCapacity l.cass.bin.count }
             denominations := set.denominations }
           loops := m.loops, drivers := m.drivers
           ledgers := { l.ledgers with
             peer := m.ledgers.peer, announce := some (l.clock + set.announce * 1000)
             silence := l.ledgers.silence.map
               (fun t => t - 5 * l.settings.announce * 1000 + 5 * set.announce * 1000) }
           bus := { l.bus with queue := m.bus.queue } }
       ∧ (∀ i,
           let p := set.position.get i
           let r := l.cass.replay.get i
           let deposit := p.mode = .deposit
           let c := m.cass.entry.get i
           (p.mode = .unused → c = ⟨.unused, none, 0, none, p.capacity, p.lowMark, .unused, 0, none,
               r.lastRestock⟩)
           ∧ (p.mode ≠ .unused →
               c = ⟨p.mode, if deposit then none else p.denomination, min r.count p.capacity,
                 if deposit then some (r.kept.map (fun k =>
                   k.value (fun x => (set.position.get x).mode == .deposit) i)).sum else none,
                 p.capacity, p.lowMark, c.state, 0,
                 if l.cass.present.get i then none else some .removed, r.lastRestock⟩
               ∧ (l.cass.present.get i = false → c.state = .out)
               ∧ (l.cass.present.get i = true →
                   let suspect := r.suspect = true ∨ p.capacity < r.count
                     ∨ (if deposit then r.denomination ≠ none else r.denomination ≠ p.denomination)
                   (suspect → c.state = .suspect)
                   ∧ (¬suspect → c.state =
                       if r.count = 0 then .empty
                       else if r.count = p.capacity then .full
                       else if !deposit && r.count ≤ p.lowMark then .low
                       else .ok))))
       ∧ m.loops.hits = l.loops.hits
       ∧ (∀ n, m.loops.entry.get n = { l.loops.entry.get n with
           candidate := some (l.clock + (set.loop.get n).filter.ms) })
       ∧ (∀ d, (m.driver d).diagnostics = set.diagnostics.get d.index
           ∧ (m.driver d).latched = (l.driver d).latched)
       ∧ (m.driver .shutter).commanded = decide (l.lockdown.state = .clear)
       ∧ (∀ n, m.ledgers.peer.get n =
           if (l.ledgers.peer.get n).state = .unknown then
             { l.ledgers.peer.get n with deadline := some (l.clock + 2 * (4 * set.announce * 1000)) }
           else l.ledgers.peer.get n)
       ∧ (let cassettes := positions.flatMap (fun i =>
            let c := m.cass.entry.get i
            m.toBoth (.cassetteChange (some i) (.inl c.state) c.cause c.count))
          let bin := m.toBoth (.cassetteChange none (.inr m.cass.bin.state) none m.cass.bin.count)
          let faults := drivers.flatMap (fun d =>
            let e := l.driver d
            if e.latched.isEmpty = true then []
            else m.toBoth (.driverFault d e.latched
              { e.live with openOff := e.live.openOff && set.diagnostics.get d.index }))
          let views := if m.mismatch = true then
              toConsole set.supervisor 0 (.mismatch set.wall set.safe m.wallEff m.safeEff m.differing) else []
          let ends := if set.safeLane = true then [toEvery (.serviceEnd false) 0] else []
          m.bus.queue = queued l.bus.queue
            (cassettes ++ bin ++ faults ++ views ++ ends ++ [toEvery (.status none) 0, replyTo h 24 .done])))

/-- LANE with OPEN or NONE: the tests in their order give the REPLY; an OPEN that passes in CLOSED makes the
lane OPEN, raises the shutter, lights the lamp unless its hold runs, and queues a STATUS. The DONE of a NONE is
the model's choice (log entry 10).

LANE close: an OPEN lane becomes CLOSED, a payout in STAGED or CLAIMING and an envelope record before
its capture end: a STAGED envelope's record is discarded, a CLAIMING one's is kept abandoned until its claim is
read back or dropped, an OPEN gate closes with its place given back; and every other job, the drawer, the
transport and the lockdown run on. What those jobs queue comes first (REPLY STATE to each, or a RELEASE and NOTICE
ENVELOPE_END), then the STATUS and REPLY DONE; their slots are returned; the shutter stays up in a CLEAR lane, and the
lamp goes off at once or at its hold's end. The order of frames of one class, the payout's before the envelope's and
the NOTICE JOURNAL of returned slots among them, is the model's choice (log entry 23). -/
def Obligations.LaneOpensAndClosesOnRequest : Prop :=
  (∀ (h : Sender) (q : List Instr) (l : Lane), l.fromSupervisor h = true →
     let serves := l.sup.service == .closed || l.sup.service == .opened
     let tests : List (Bool × ReplyCode) :=
       [(!serves, .state), (l.lockdown.state != .clear, .locked), (l.sup.causes.any, .unavailable),
        (l.sup.service == .opened, .done)]
     (∀ code, firstFailing tests = some code →
       exec (.laneOpen h) ⟨q, l⟩ = .next ⟨q, l.sending [replyTo h 19 code]⟩)
     ∧ (firstFailing tests = none → ∃ m, exec (.laneOpen h) ⟨q, l⟩ = .next ⟨q, m⟩
       ∧ m = { l with
           sup := { l.sup with service := .opened }
           drivers := m.drivers
           ledgers := { l.ledgers with announce := some (l.clock + l.settings.announce * 1000) }
           bus := { l.bus with
             queue := queued l.bus.queue [toEvery (.status none) 0, replyTo h 19 .done] } }
       ∧ (m.driver .shutter).commanded = true
       ∧ (l.drivers.lampHold = none → (m.driver .laneLamp).commanded = true)
       ∧ (l.drivers.lampHold.isSome = true → m.driver .laneLamp = l.driver .laneLamp)
       ∧ ∀ d, d ≠ .shutter → d ≠ .laneLamp → m.driver d = l.driver d)
     ∧ exec (.laneNone h) ⟨q, l⟩ = .next ⟨q, l.sending [replyTo h 19 (if serves then .done else .state)]⟩)
  ∧ (∀ (h : Sender) (q : List Instr) (l : Lane), l.fromSupervisor h = true →
     (l.sup.service = .opened → ∃ m, exec (.laneClose h) ⟨q, l⟩ = .next ⟨q, m⟩
       ∧ (let jobs := ({ l with sup := { l.sup with service := .closed } } : Lane).jobsClosed
         m = { jobs.sending [toEvery (.status none) 0, replyTo h 19 .done] with
           drivers := m.drivers
           ledgers := { jobs.ledgers with announce := some (l.clock + l.settings.announce * 1000) } }
         ∧ (m.driver .shutter).commanded = (l.lockdown.state == .clear)
         ∧ (l.drivers.lampHold = none → (m.driver .laneLamp).commanded = false
             ∧ m.drivers.lampHold = (if (l.driver .laneLamp).commanded then some (l.clock + 1000) else none))
         ∧ (l.drivers.lampHold.isSome = true →
             m.driver .laneLamp = l.driver .laneLamp ∧ m.drivers.lampHold = l.drivers.lampHold)
         ∧ (∀ d, d ≠ .shutter → d ≠ .laneLamp → m.driver d = jobs.driver d)
         ∧ m.drivers.hot = l.drivers.hot ∧ m.drivers.strobeMinOn = l.drivers.strobeMinOn)
       ∧ m.payout = l.payout.filter (fun p => p.state != .staged && p.state != .claiming)
       ∧ (∀ r, l.envelope.path = .staged → l.envelope.record = some r → r.abandoned = false →
           m.envelope.record = none ∧ m.envelope.path = .idle)
       ∧ (∀ r, l.envelope.path = .claiming → l.envelope.record = some r → r.abandoned = false →
           m.envelope = { l.envelope with record := some { r with abandoned := true, faultAtEnd := false } }
           ∧ m.ledgers.places = l.ledgers.places)
       ∧ (∀ r, l.envelope.path = .opened → l.envelope.record = some r →
           m.envelope.record = none ∧ m.envelope.path = .idle
           ∧ m.ledgers.places = l.ledgers.places - 1
           ∧ (m.driver .envGate).commanded = false)
       ∧ (l.envelope.path = .capturing → m.envelope = l.envelope)
       ∧ m.journal = { l.journal with reserved := m.journal.reserved, state := m.journal.state })
     ∧ (l.sup.service = .closed →
         exec (.laneClose h) ⟨q, l⟩ = .next ⟨q, l.sending [replyTo h 19 .done]⟩)
     ∧ (l.sup.service ≠ .opened → l.sup.service ≠ .closed →
         exec (.laneClose h) ⟨q, l⟩ = .next ⟨q, l.sending [replyTo h 19 .state]⟩))

/-- LANE with the clear-drawer flag: MALFORMED with OPEN; with CLOSE an OPEN lane is closed first, its STATUS before
the flag's REPLY, and the tests of R71 then run in their order on what the close left, as they do with NONE. A
JAMMED drawer starts a CLEAR run under the owner's unused slot or a new one, which ends at once where the HOME sensor
reports; a RETAINED drawer at HOME that no transaction owns is cleared at once, with its record, its causes withdrawn
and the REPLY DONE. The drawer is then free: a BUNDLED payout asks for it and presents, or is purged FAILED_JAM with a
drawer driver's latched fault, LOCKED in lockdown; a giveback's deferred present is made where neither stands in its
way; a HELD intake and any other payout or intake is as it was. A present at an OUT sensor that reports already ends at
once.

The model's choices: a re-drive counts as a run in progress (log entry 13); the NOTICE JOURNAL of the new slot joins
before the REPLY DONE, and the frames of the close and of the jobs it ends are in the order of log entry 23. -/
def Obligations.ClearDrawerFlagTestsAndClears : Prop :=
  ∀ (h : Sender) (q : List Instr) (l : Lane), l.fromSupervisor h = true →
    exec (.laneClearDrawer h .openLane) ⟨q, l⟩ = .next ⟨q, l.sending [replyTo h 19 .malformed]⟩
    ∧ ∀ (action : LaneAction) (x : Lane),
      (action = .noAction ∧ x = l) ∨ (action = .closeLane ∧ x = l.asClosed) →
      let acts := exec (.laneClearDrawer h action) ⟨q, l⟩
      let jammed := x.drawer.position == .jammed
      let tests : List (Bool × ReplyCode) :=
        [(x.sup.service != .closed, .state),
         (!((jammed || x.drawer.position == .home && x.drawer.contents == .retained)
            && x.drawer.movement == none && x.drawer.travel == none), .state),
         (jammed && x.latchedFault .drawerIn, .unavailable),
         (!(x.ownerSlot || x.canReserve 1), .journal)]
      (∀ code, firstFailing tests = some code → acts = .next ⟨q, x.sending [replyTo h 19 code]⟩)
      ∧ (firstFailing tests = none → jammed = true →
          let base := if x.ownerSlot then x else x.reserving (x.journal.reserved + 1)
          let runs := ({ base with sup := { x.sup with clearing := some ⟨h, !x.ownerSlot⟩ } } : Lane).startRun .clear
          acts = if x.drawer.atEnd = some .home then exec (.endSensorArrival .home) ⟨q, runs⟩ else .next ⟨q, runs⟩)
      ∧ (firstFailing tests = none → jammed = false → x.drawer.owner = none →
          let base := x.reserving (x.journal.reserved + 1)
          let cleared : Lane := { base.sending [replyTo h 19 .done] with
            sup := { x.sup with
              clearing := none
              causes := { x.sup.causes with drawer := false, purgeDrawer := false, transportDrawer := false } }
            journal := { base.journal with queue := x.journal.queue ++
              [{ record := .drawerCleared x.drawer.lastOwnerTag (x.drawer.presented - x.drawer.counted)
                 seconds := x.wallSeconds, reserved := true }] }
            drawer := { x.drawer with contents := .empty, presented := 0, counted := 0 } }
          let faulty := x.latchedFault .drawerOut = true ∨ x.latchedFault .drawerIn = true
          let presents := fun (m : Lane) (o : Owner) =>
            let runs := ({ m with
              transport := { x.transport with stacker := Bundle.empty }
              drawer := { cleared.drawer with
                owner := some o, lastOwnerTag := some o.tag, waiting := false
                presented := x.transport.stacker.notes
                contents := if x.transport.stacker.kind = .cash then .cash else .returned } } : Lane).startRun .extend
            acts = if x.drawer.atEnd = some .out then exec (.endSensorArrival .out) ⟨q, runs⟩ else .next ⟨q, runs⟩
          (∀ p, x.payout = some p → p.state = .bundled → x.intake = none →
            (¬faulty → x.lockdown.state = .clear →
              presents { cleared with payout := some { p with state := .presenting } } ⟨.payout, p.tag⟩)
            ∧ (faulty ∨ x.lockdown.state ≠ .clear → x.transport.path ≠ [] ∨ x.transport.stacker.notes ≠ 0 →
              acts = .next ⟨q, cleared.purging p (if faulty then .failedJam else .locked)⟩))
          ∧ ((∀ p, x.payout = some p → p.state ≠ .bundled) →
            (faulty ∨ x.lockdown.state ≠ .clear ∨ (∀ i, x.intake = some i →
                i.presentDeferred = false ∨ (i.state ≠ .returning ∧ i.state ≠ .givingBack)) →
              acts = .next ⟨q, cleared⟩)
            ∧ ∀ i, x.intake = some i → i.presentDeferred = true → i.state = .givingBack → ¬faulty →
              x.lockdown.state = .clear →
              presents { cleared with intake := some { i with presentDeferred := false, presentMade := true } }
                ⟨.giveback, i.tag⟩))

/-- TEST is refused STATE unless the lane is CLOSED and BUSY while a job or a clearing is in progress; accepted, it
runs. Its end runs the steps in order: each step that passes withdraws its cause, the first that fails raises
its own and ends the run, and one that passes all three takes the envelope path out of FAULT. Step 3 records for
each driver whether its output is off and SHORT_SUPPLY, or OPEN_OFF with diagnostics enabled, is live or shown by
the stage (in a lane that is not OPEN, whose close would switch outputs meanwhile). A failed rescan leaves the
journal ABSENT without a cartridge or after a removal, and FAULT otherwise.

The frames of a run, in a lane that is not OPEN and has no envelope record: a NOTICE DRIVER_FAULT to each console for
every kind that the check latches, what the rescan's change of the journal state sends, and NOTICE TEST_RESULT to
the supervisor console with the last step run and its result. A rescan with no line operation waiting takes the page
map of its walk, lowers the reserved slots to the free ones and derives the state; after that a head that the walk
found as its last written record, with the same sequence number, kind and payload, leaves the queue, its reserved
slot is used and a RESTOCK reports its number; any other head is given its number afresh.

That the whole TEST ends in one command, and that a damaged slot after the last GOOD one leaves no last written record,
are the model's choices (log entry 14); that a TEST_COMPLETE with no run changes nothing is log entry 2, and the
order of the frames of one class log entry 23. -/
def Obligations.TestRunsItsStepsInOrder : Prop :=
  (∀ (h : Sender) (q : List Instr) (l : Lane), l.fromSupervisor h = true →
    let tests : List (Bool × ReplyCode) :=
      [(l.sup.service != .closed, .state),
       (l.payout.isSome || l.intake.isSome || l.envelope.record.isSome || l.sup.clearing.isSome, .busy)]
    (∀ code, firstFailing tests = some code →
      exec (.test h) ⟨q, l⟩ = .next ⟨q, l.sending [replyTo h 20 code]⟩)
    ∧ (firstFailing tests = none →
      exec (.test h) ⟨q, l⟩ = .next ⟨q, { l.sending [replyTo h 20 .accepted] with
        sup := { l.sup with testRun := some h.tag, testFault := false } }⟩))
  ∧ (∀ (code : Byte) (q : List Instr) (l : Lane), l.sup.testRun = none →
      exec (.testComplete code) ⟨q, l⟩ = .next ⟨q, l⟩)
  ∧ ∀ (code : Byte) (q : List Instr) (l : Lane) (tag : Tag), l.sup.testRun = some tag →
    let good := 124 ≤ code.toNat ∧ code.toNat ≤ 132
    ∃ m, exec (.testComplete code) ⟨q, l⟩ = .next ⟨q, m⟩
      ∧ m.sup.testRun = none
      ∧ m.settings = l.settings ∧ m.cass = { l.cass with entry := m.cass.entry } ∧ m.transport = l.transport ∧ m.drawer = l.drawer
      ∧ m.loops = l.loops ∧ m.lockdown = l.lockdown ∧ m.ledgers.cash = l.ledgers.cash
      ∧ (l.sup.service ≠ .opened → ∀ d : Driver, m.sup.driverTest.get d.index =
          let e := l.driver d
          (!e.output && (e.live.shortSupply || e.stage.shortSupply
            || e.diagnostics && (e.live.openOff || e.stage.openOff))))
      ∧ ((∃ d : Driver, m.sup.driverTest.get d.index = true) → m.sup.causes.driverTest = true
          ∧ m.journal.cells = l.journal.cells)
      ∧ ((∀ d : Driver, m.sup.driverTest.get d.index = false) →
          m.sup.causes.driverTest = false
          ∧ (¬good → m.sup.converterFault = true ∧ m.sup.causes.converter = true
              ∧ m.journal.cells = l.journal.cells)
          ∧ (good → m.sup.converterFault = false ∧ m.sup.causes.converter = false
              ∧ (l.journal.present = true → l.sup.testFault = false →
                  m.sup.causes.journal = false ∧ m.envelope.path ≠ .fault
                  ∧ m.journal.state = journalStateOf m.journal.free m.journal.reserved)
              ∧ (l.journal.present = false ∨ l.sup.testFault = true →
                  m.sup.causes.journal = true ∧ m.journal.free = 0
                  ∧ (l.sup.service ≠ .opened →
                      m.journal.reserved = l.journal.reserved ∧ m.journal.queue = l.journal.queue)
                  ∧ m.journal.state = if l.journal.present = true ∧ l.journal.state ≠ .absent then .fault
                      else .absent)))
      ∧ (l.sup.service ≠ .opened → l.envelope.record = none →
          let faults := drivers.flatMap (fun d =>
            let e := l.driver d
            let openOff := !e.output && e.diagnostics && e.stage.openOff
            let short := !e.output && e.stage.shortSupply
            let n := (openOff && !e.latched.openOff).toNat + (short && !e.latched.shortSupply).toNat
            (List.replicate n (l.toBoth (.driverFault d
              { e.latched with openOff := e.latched.openOff || openOff
                               shortSupply := e.latched.shortSupply || short }
              { e.live with openOff := e.live.openOff || openOff
                            shortSupply := e.live.shortSupply || short }))).flatten)
          let tells := fun (news : List Outgoing) (step : Nat) (pass : Bool) =>
            m.bus.queue = queued l.bus.queue
              (faults ++ news ++ toConsole l.settings.supervisor tag (.testResult step pass))
          ((∃ d : Driver, m.sup.driverTest.get d.index = true) → tells [] 3 false ∧ m.journal = l.journal)
          ∧ ((∀ d : Driver, m.sup.driverTest.get d.index = false) →
            (¬good → tells [] 4 false ∧ m.journal = l.journal)
            ∧ (good → l.journal.op = none →
              (l.journal.present = false ∨ l.sup.testFault = true → tells (l.journalNews m.journal) 5 false)
              ∧ (l.journal.present = true → l.sup.testFault = false →
                let w := walk true l.journal.cells
                let read := l.journal.mapped w
                let kept := min l.journal.reserved read.free
                let j := { read with reserved := kept, state := journalStateOf read.free kept }
                let ends := fun (j' : Journal) => m.journal = j'
                  ∧ tells (l.journalNews j ++ ({ l with journal := j } : Lane).journalNews j') 5 true
                let written := fun (x : QueuedRecord) (n : Nat) (e : ScanEntry) =>
                  l.journal.headSequence = some n ∧ w.lastWritten = some e ∧ slotSequence e.value = n
                  ∧ e.value.toNat / 2 ^ 124 = x.record.kindCode
                  ∧ ((slotBitList e.value).drop 56).take 56 = x.record.payload
                (∀ x rest n e, l.journal.queue = x :: rest → written x n e →
                    ends (({ j with queue := rest, headSequence := none } : Journal).withReserved
                      (if x.reserved = true then kept - 1 else kept))
                    ∧ m.cass.entry = match x.record with
                      | .restock (some i) _ _ => l.cass.entry.modify i (fun c => { c with lastRestock := some n })
                      | _ => l.cass.entry)
                ∧ ((∀ x rest n e, l.journal.queue = x :: rest → ¬written x n e) →
                    ends { j with headSequence := none } ∧ m.cass = l.cass)))))

/-! ### Cassettes and the purge bin -/

/-- INVENTORY reports what its selector names as it stands, and changes nothing: MALFORMED for a selector
outside 0 to 5, STATE before SETUP_DONE. -/
def Obligations.InventoryReportsItsSelection : Prop :=
  ∀ (h : Sender) (sel : Byte) (q : List Instr) (l : Lane), l.takes h = true →
    exec (.inventory h sel) ⟨q, l⟩ = .next ⟨q, l.sending
      [if 5 < sel.toNat then replyTo h 11 .malformed
       else if l.sup.service ≠ .closed ∧ l.sup.service ≠ .opened then replyTo h 11 .state
       else if sel = 5#8 then replyTo h 11 .done (.denominations l.cass.denominations)
       else if sel = 4#8 then replyTo h 11 .done (.bin l.cass.bin.count l.cass.bin.capacity l.cass.bin.state)
       else replyTo h 11 .done (.cassette (l.cass.entry.get (Fin.ofNat 4 sel.toNat)))]⟩

/-- A RESTOCK is tested in the order of R13, and a refused one changes nothing but the answer; one that passes sets
the count, clears run, cause and a DEPOSIT value, and its record joins under a reservation of one slot. That a
target outside 0 to 4 is answered STATE is the model's choice (log entry 10), as is that the NOTICE JOURNAL which the
reservation may cause is queued before REPLY DONE (log entry 23). -/
def Obligations.RestockTestsAndSetsCount : Prop :=
  ∀ (h : Sender) (target : Byte) (count denomination : Nat) (q : List Instr) (l : Lane),
    l.fromSupervisor h = true →
    let d := if denomination = 0 then none else some denomination
    let base := l.reserving (l.journal.reserved + 1)
    (l.sup.service ≠ .closed ∨ 4 < target.toNat →
      exec (.restock h target count denomination) ⟨q, l⟩ = .next ⟨q, l.sending [replyTo h 12 .state]⟩)
    ∧ (∀ i : Position, l.sup.service = .closed → target.toNat = i.val →
      let c := l.cass.entry.get i
      let pays := c.mode == .dispense || c.mode == .recycle
      let tests : List (Bool × ReplyCode) :=
        [(c.mode == .unused, .state), (l.payout.isSome || l.intake.isSome, .busy),
         (c.state == .out, .unavailable),
         (if pays then c.capacity < count || d == none || d != c.denomination
          else count != 0 || d != none, .range),
         (!l.canReserve 1, .journal)]
      let state : CassState :=
        if count = 0 then .empty else if count = c.capacity then .full
        else if pays && count ≤ c.lowMark then .low else .ok
      let after : Cassette := { c with
        count := count, value := if c.mode = .deposit then some 0 else c.value, badRun := 0, cause := none
        state := state }
      (∀ code, firstFailing tests = some code →
        exec (.restock h target count denomination) ⟨q, l⟩ = .next ⟨q, l.sending [replyTo h 12 code]⟩)
      ∧ (firstFailing tests = none →
        exec (.restock h target count denomination) ⟨q, l⟩ = .next ⟨q,
          { base.sending (replyTo h 12 .done ::
              (if state = c.state then [] else l.toBoth (.cassetteChange (some i) (.inl state) none count))) with
            cass := { l.cass with entry := l.cass.entry.set i after }
            journal := { base.journal with queue := l.journal.queue ++
              [{ record := .restock (some i) d count, seconds := l.wallSeconds, reserved := true }] } }⟩))
    ∧ (l.sup.service = .closed → target.toNat = 4 →
      let tests : List (Bool × ReplyCode) :=
        [(l.payout.isSome || l.intake.isSome, .busy), (count != 0 || d != none, .range),
         (!l.canReserve 1, .journal)]
      let emptied : Bin := { l.cass.bin with count := 0 }
      (∀ code, firstFailing tests = some code →
        exec (.restock h target count denomination) ⟨q, l⟩ = .next ⟨q, l.sending [replyTo h 12 code]⟩)
      ∧ (firstFailing tests = none →
        exec (.restock h target count denomination) ⟨q, l⟩ = .next ⟨q,
          { base.sending (replyTo h 12 .done ::
              (if emptied.state = l.cass.bin.state then []
               else l.toBoth (.cassetteChange none (.inr emptied.state) none 0))) with
            cass := { l.cass with bin := emptied }
            journal := { base.journal with queue := l.journal.queue ++
              [{ record := .restock none none 0, seconds := l.wallSeconds, reserved := true }] } }⟩))

/-- A removal makes a used cassette OUT with cause REMOVED, an insertion makes an OUT one SUSPECT; count,
value and run stay, and before SETUP_DONE or at an UNUSED position no entry changes. A removal that loses a position
of a payout's pick list halts its picks and, with the note path empty, asks for a remix. Nothing but that, the sensor,
the entry and its notice changes where no drawer run ends. -/
def Obligations.PresenceEventsMarkTheCassette : Prop :=
  ∀ (i : Position) (q : List Instr) (l : Lane),
    let c := l.cass.entry.get i
    let used := (l.sup.service = .closed ∨ l.sup.service = .opened) ∧ c.mode ≠ .unused
    let gone : Cassette := if used ∧ c.state ≠ .out then { c with state := .out, cause := some .removed } else c
    let back : Cassette := if used ∧ c.state = .out then { c with state := .suspect } else c
    let cassAfter := fun (x : Cassette) (present : Bool) =>
      { l.cass with entry := l.cass.entry.set i x, present := l.cass.present.set i present }
    let news := fun (x : Cassette) =>
      if x.state = c.state then [] else l.toBoth (.cassetteChange (some i) (.inl x.state) x.cause x.count)
    (∃ m, exec (.cassetteRemoval i) ⟨q, l⟩ = .next ⟨q, m⟩ ∧ m.cass = cassAfter gone false
      ∧ (l.settled = true → (∀ p, l.payout = some p → l.transport.path ≠ [] ∨ p.stackedValue ≠ p.amount) →
          let removed : Lane := { l.sending (news gone) with cass := cassAfter gone false }
          m = if gone.state = c.state then removed else removed.positionLost))
    ∧ exec (.cassetteInsertion i) ⟨q, l⟩ = .next ⟨q, { l.sending (news back) with cass := cassAfter back true }⟩

/-! ### Payouts -/

/-- A PAYOUT of the attending console is tested in the order of R33, as though a payout in STAGED or CLAIMING
had already been superseded; a refused one changes nothing but the answer. One that passes is STAGED with the
mix of this moment, two slots are reserved and its CASH CLAIM is queued, with no REPLY; a payout in STAGED or
CLAIMING is superseded first and answered so. That the NOTICE JOURNAL which its returned slots may cause is queued
before REPLY SUPERSEDED is the model's choice (log entry 23). -/
def Obligations.PayoutIsTestedStagedAndClaims : Prop :=
  (∀ (h : Sender) (amount : Nat) (code : Byte) (q : List Instr) (l : Lane), l.fromAttending h = true →
     let mode : MixMode := if code = 0#8 then .fewest else .spread
     let total := match firstMix l.cass.entry l.settings.cap amount mode with | .mix m => m.total | _ => 0
     let tests : List (Bool × ReplyCode) :=
       [(1 < code.toNat, .malformed),
        (l.sup.service != .opened, .state),
        (l.lockdown.state != .clear, .locked),
        (l.bus.mute != .no || l.ledgers.isolated, .line),
        (l.intake.isSome || l.payout.any (fun p => p.state != .staged && p.state != .claiming), .busy),
        (amount = 0 || l.settings.cap < amount, .range),
        (l.anyLoop .holdup LoopClass.trouble || l.latchedFault .silentRelay || l.latchedFault .drawerOut
           || l.latchedFault .drawerIn || l.drawer.position == .jammed, .unavailable),
        (firstMix l.cass.entry l.settings.cap amount mode == .noMix, .noMix),
        (l.cass.bin.capacity - l.cass.bin.count < total + 8, .unavailable),
        (!l.asSuperseded.canReserve 2, .journal)]
     ∀ answer, firstFailing tests = some answer →
       exec (.payout h amount code) ⟨q, l⟩ = .next ⟨q, l.sending [replyTo h 5 answer]⟩)
  ∧ (∀ (h : Sender) (amount : Nat) (code : Byte) (mode : MixMode) (x : Mix) (q : List Instr) (l : Lane),
     l.fromAttending h = true → mixModeOf code = some mode →
     l.sup.service = .opened → l.lockdown.state = .clear → l.bus.mute = .no → l.ledgers.isolated = false →
     l.intake = none → 0 < amount → amount ≤ l.settings.cap → l.payoutBarred = false →
     firstMix l.cass.entry l.settings.cap amount mode = .mix x →
     x.total + 8 ≤ l.cass.bin.capacity - l.cass.bin.count →
     l.bus.queue.length ≤ 8 →
     let staged : Payout :=
       { tag := h.tag, console := h.source, amount := amount, mode := mode, mix := x
         drawn := Four.replicate 0, stackedNotes := 0, stackedValue := 0, diverted := 0, binned := 0
         recallPending := false, state := .staged, outcome := none, slots := 2 }
     let claim := toEvery (.claim .cash amount) h.tag
     (l.payout = none → l.canReserve 2 = true →
       exec (.payout h amount code) ⟨q, l⟩ = .next ⟨q,
         { (l.reserving (l.journal.reserved + 2)).sending [claim] with payout := some staged }⟩)
     ∧ (∀ p, l.payout = some p → p.state = .staged ∨ p.state = .claiming →
         l.asSuperseded.canReserve 2 = true →
         let freed := ({ l.abandonClaim .cash with payout := none } : Lane).returning p.slots
         let answered := freed.sending [replyTo ⟨p.console, p.tag⟩ 5 .superseded]
         exec (.payout h amount code) ⟨q, l⟩ = .next ⟨q,
           { (answered.reserving (answered.journal.reserved + 2)).sending [claim] with payout := some staged }⟩))

/-- RECALL by the state of the payout its tag names: refused STATE without one, BUSY where it can change
nothing, DONE where it ends a payout the wall has not decided, and ACCEPTED where it sends the cash back. A payout
with no note in the path and the stacker has nothing to purge, and is over RECALLED at once. That the NOTICE JOURNAL
which the returned slots may cause is queued before REPLY STATE to an undecided payout, and after NOTICE PAYOUT_FAILED
of one past its claim, is the model's choice (log entry 23). -/
def Obligations.RecallActsByThePayoutsState : Prop :=
  ∀ (h : Sender) (q : List Instr) (l : Lane), l.fromAttending h = true →
    let answer := fun code => l.sending [replyTo h 6 code]
    ((∀ p, l.payout = some p → p.tag ≠ h.tag) → exec (.recall h) ⟨q, l⟩ = .next ⟨q, answer .state⟩)
    ∧ ∀ p, l.payout = some p → p.tag = h.tag →
      (p.state = .retracting ∨ p.state = .purging ∨ p.state = .jammed
          ∨ (p.state = .presenting ∧ p.recallPending = true) →
        exec (.recall h) ⟨q, l⟩ = .next ⟨q, answer .busy⟩)
      ∧ (p.state = .presenting → p.recallPending = false →
        exec (.recall h) ⟨q, l⟩ = .next ⟨q,
          { answer .accepted with payout := some { p with recallPending := true } }⟩)
      ∧ (p.state = .staged ∨ p.state = .claiming →
        let freed := ({ (answer .done).abandonClaim .cash with payout := none } : Lane).returning p.slots
        exec (.recall h) ⟨q, l⟩ = .next ⟨q, freed.sending [replyTo ⟨p.console, p.tag⟩ 5 .state]⟩)
      ∧ (p.state = .picking ∨ p.state = .bundled →
        l.transport.path ≠ [] ∨ l.transport.stacker.notes ≠ 0 →
        exec (.recall h) ⟨q, l⟩ = .next ⟨q, (answer .accepted).purging p .recalled⟩)
      ∧ (p.state = .picking ∨ p.state = .bundled → l.transport.path = [] → l.transport.stacker.notes = 0 →
        exec (.recall h) ⟨q, l⟩ = .next ⟨q,
          ({ answer .accepted with drawer := { l.drawer with waiting := false } } : Lane).payoutOver p
            (.purge .recalled p.drawn p.binned) (.payoutFailed .recalled p.binned)⟩)
      ∧ (p.state = .presented → l.drawer.position = .out →
        l.drawer.contents = .cash ∨ l.drawer.contents = .returned → l.drawer.atEnd ≠ some .home →
        exec (.recall h) ⟨q, l⟩ = .next ⟨q,
          ({ answer .accepted with payout := some { p with state := .retracting } } : Lane).startRun .retract⟩)

/-- The readback of the lane's own CASH CLAIM: an abandoned one is released without a test; otherwise own
cash plus the amount plus the counted cash of every peer is held against W_eff, and the payout is PICKING
with its PICK record and own cash at the amount, or ends EXPOSURE with its claim released. A position of the pick list
that is no longer eligible halts the picks as they begin, and with the note path empty the remix is asked at once. That
the NOTICE JOURNAL which the returned slots may cause is queued before REPLY EXPOSURE is the model's choice (log
entry 23). -/
def Obligations.CashClaimIsDecidedAtReadback : Prop :=
  ∀ (f : TxFrame) (amount : Nat) (q : List Instr) (l : Lane), l.settled = true →
    l.onLine? = some f → f.body = .claim .cash amount →
    (f.abandoned = true →
      exec .cashClaimReadback ⟨q, l⟩ = .next ⟨q,
        l.readBack.sending [toEvery (.release .cash amount) f.tag]⟩)
    ∧ ∀ p, f.abandoned = false → l.payout = some p → p.state = .staged ∨ p.state = .claiming →
      let counted := fun (e : Peer) => match e.state with
        | .fresh => e.cash
        | .stale | .unknown | .silent => l.settings.cap
        | .absent | .self => 0
      let admitted := l.ledgers.cash + p.amount + (eightNumbers.map (fun n => counted (l.ledgers.peer.get n))).sum
        ≤ l.wallEff
      let eligible := ∀ e ∈ p.mix.picks, e.2 = 0 ∨ (l.cass.entry.get e.1).eligible = true
      let picking : Lane :=
        { l.readBack.sending
            [replyTo ⟨p.console, p.tag⟩ 5 .accepted (.payoutAccepted p.mix.total p.mix.belowMark)] with
          ledgers := { l.ledgers with cash := p.amount }
          payout := some { p with state := .picking, slots := p.slots - 1 }
          transport := { l.transport with
            pickList := p.mix.picks.map (fun e => { position := e.1, quota := e.2 })
            pickNumber := 0, halted := false, lost := none, remix := none }
          journal := { l.journal with queue := l.journal.queue ++
            [{ record := .pick p.tag p.amount (Four.ofFn p.mix.from), seconds := l.wallSeconds
               reserved := true }] } }
      (admitted → eligible ∨ l.transport.path ≠ [] ∨ p.stackedValue ≠ p.amount →
        exec .cashClaimReadback ⟨q, l⟩ = .next ⟨q, picking.positionLost⟩)
      ∧ (eligible → picking.positionLost = picking)
      ∧ (¬admitted →
        exec .cashClaimReadback ⟨q, l⟩ = .next ⟨q,
          ((({ l.readBack.sending [toEvery (.release .cash p.amount) p.tag] with payout := none } : Lane).returning
            p.slots).sending [replyTo ⟨p.console, p.tag⟩ 5 .exposure])⟩)

/-- A pick is made from the first entry of the pick list whose quota exceeds its notes in the note path:
its count falls by one and a derived state follows it, which is told where it changes, its drawn count rises by one,
and a note record joins the path. Picks are halted where a position of the list with quota above 0 is then not
eligible, as that of this pick is when its count reaches 0, and by nothing else; the note path holds a note, so no
remix is asked. With picks halted, four notes in the path or no such entry, no pick is made. -/
def Obligations.PickTakesFromFirstWantingEntry : Prop :=
  ∀ (p : Payout) (q : List Instr) (l : Lane), l.payout = some p → p.state = .picking →
    let wants := fun (e : PickEntry) =>
      decide ((l.transport.path.filter (fun n => n.position == e.position)).length < e.quota)
    (l.transport.halted = true ∨ 4 ≤ l.transport.path.length ∨ l.transport.pickList.find? wants = none →
      exec .pick ⟨q, l⟩ = .next ⟨q, l⟩)
    ∧ ∀ e, l.transport.halted = false → l.transport.path.length < 4 →
      l.transport.pickList.find? wants = some e →
      let i := e.position
      let c := l.cass.entry.get i
      let c' := c.withCount (c.count - 1)
      let picked : Lane :=
        { l.sending (if c'.state = c.state then []
            else l.toBoth (.cassetteChange (some i) (.inl c'.state) c.cause (c.count - 1))) with
          payout := some { p with drawn := p.drawn.set i (p.drawn.get i + 1) }
          transport := { l.transport with
            path := l.transport.path ++ [{ position := i, pickNumber := l.transport.pickNumber + 1 }]
            pickNumber := l.transport.pickNumber + 1 }
          cass := { l.cass with entry := l.cass.entry.set i c' } }
      exec .pick ⟨q, l⟩ = .next ⟨q, picked.positionLost⟩
      ∧ (picked.positionLost.transport.halted = false ↔
          ∀ e' ∈ l.transport.pickList, e'.quota = 0 ∨ (picked.cass.entry.get e'.position).eligible = true)
      ∧ picked.positionLost.transport.remix = l.transport.remix
      ∧ (c.count = 1 → c.mode ≠ .unused → c.state = .ok ∨ c.state = .low ∨ c.state = .full →
          c'.state = .empty ∧ picked.positionLost.transport.halted = true)

/-- A check result takes the oldest note record out of the path: GOOD stacks it and lowers its quota,
REJECT sends it to the bin, DOUBLE sends two and draws one more, MISS draws one fewer and gives the count
back, a derived state following the new count and a DOUBLE at count 0 making it SUSPECT. The run of bad picks follows:
GOOD clears it, the others add one and the third makes the cassette FAULT, but a run at 3 and a FAULT or OUT cassette
keep run and state. A change of the cassette's or the bin's state is told.

A position of the list with quota above 0 that is not eligible then is lost and halts the picks. When the result
empties the note path, a halted payout short of its amount asks for a remix without the lost position, and one with
quotas unmet picks on; a purge goes on with the notes in the stacker, and without any ends the payout.

A REJECT or a DOUBLE that takes the diverted count of a payout in PICKING past 8 halts its picks and sends it to
PURGING with outcome FAILED_REJECTS, which is over at once with no note in the path and the stacker; in PURGING the
count fails nothing further. A note that the bin refuses, the second one of a DOUBLE among them, ends the payout with
the outcome it has, or else FAILED_REJECTS: its PURGE record joins with the notes delivered, a RELEASE of its claim and
its notice are queued, own cash held is 0, and the lane closes with a purge fault.

That a rejected or doubled note reaches the bin in the same step as its result is the model's choice (log entry 4), as
are the one CASSETTE_CHANGE of a result that moves the state twice, the order of the frames of one class, and the
NOTICE JOURNAL of a returned slot after the payout's notice (log entry 23). -/
def Obligations.CheckResultMovesOldestNote : Prop :=
  ∀ (p : Payout) (n : PathNote) (rest : List PathNote) (q : List Instr) (l : Lane),
    l.settled = true → l.payout = some p → p.state = .picking ∨ p.state = .purging →
    l.transport.path = n :: rest →
    let i := n.position
    let c := l.cass.entry.get i
    let d := c.denomination.getD 0
    let live := c.state ≠ .fault ∧ c.state ≠ .out ∧ c.badRun < 3
    let bad := fun (x : Cassette) (cause : FaultCause) =>
      if ¬live then x
      else if c.badRun < 2 then { x with badRun := c.badRun + 1 }
      else if x.state = .unused then { x with badRun := 3 }
      else { x with badRun := 3, state := .fault, cause := some cause }
    let doubled := bad (if c.count = 0 then
        { c with state := if c.state = .fault ∨ c.state = .out ∨ c.state = .unused then c.state else .suspect }
      else c.withCount (c.count - 1)) .rejects
    let binned := fun (k : Nat) => { l.cass.bin with count := l.cass.bin.count + k }
    let told := fun (k : Nat) => if (binned k).state = (binned (k - 1)).state then []
      else l.toBoth (.cassetteChange none (.inr (binned k).state) none (binned k).count)
    let deliveries := fun (k : Nat) => if k = 0 then [] else if k = 1 then told 1 else told 1 ++ told 2
    let changes := fun (x : Cassette) (k : Nat) => (if x.state = c.state then []
      else l.toBoth (.cassetteChange (some i) (.inl x.state) x.cause x.count)) ++ deliveries k
    let table := fun (x : Cassette) (k : Nat) =>
      { l.cass with entry := l.cass.entry.set i x, bin := binned k }
    let taken := fun (x : Cassette) (k : Nat) (p' : Payout) => ({ l.sending (changes x k) with
      payout := some p'
      cass := table x k
      transport := { l.transport with path := rest } } : Lane)
    let ended := fun (x : Lane) (p' : Payout) (o : PayoutOutcome) =>
      x.payoutOver p' (.purge o.reason p'.drawn p'.binned) (.payoutFailed o p'.binned)
    let goesOn := fun (answer : Host.Outcome State Fault Refusal) (x : Lane) (p' : Payout) =>
      let unmet := if x.positionLost.transport.halted = true then p'.stackedValue ≠ p'.amount
        else x.transport.pickList ≠ []
      (rest ≠ [] ∨ (p.state = .picking ∧ unmet) ∨ (p.state = .purging ∧ x.transport.stacker.notes ≠ 0) →
        answer = .next ⟨q, x.positionLost.remixAsked⟩)
      ∧ (rest = [] → p.state = .purging → x.transport.stacker.notes = 0 →
        answer = .next ⟨q, ended x p' (p.outcome.getD .failedJam)⟩)
    let crosses := fun (answer : Host.Outcome State Fault Refusal) (x : Lane) (p' : Payout) =>
      (rest ≠ [] ∨ l.transport.stacker.notes ≠ 0 → answer = .next ⟨q, x.purging p' .failedRejects⟩)
      ∧ (rest = [] → l.transport.stacker.notes = 0 → answer = .next ⟨q, ended
          { x with drawer := { l.drawer with waiting := false } } p' .failedRejects⟩)
    let refused := fun (answer : Host.Outcome State Fault Refusal) (x : Cassette) (drawn : Four Nat) (k : Nat) =>
      let outcome := p.outcome.getD .failedRejects
      ∃ m, answer = .next ⟨q, m⟩ ∧ m.payout = none ∧ m.ledgers.cash = 0
      ∧ m.transport = { l.transport with
          path := rest, pickList := [], halted := false, lost := none, remix := none }
      ∧ m.cass = table x k
      ∧ m.journal.queue = l.journal.queue ++ [{ record := .purge outcome.reason drawn (p.binned + k)
                                                seconds := l.wallSeconds, reserved := true }]
      ∧ m.sup.causes = { l.sup.causes with purgeModule := true }
      ∧ m.sup.service = (if l.sup.service = .opened then .closed else l.sup.service)
      ∧ m.drawer.position = l.drawer.position ∧ m.drawer.contents = l.drawer.contents
      ∧ m.intake = l.intake ∧ m.lockdown = l.lockdown ∧ m.settings = l.settings ∧ m.loops = l.loops
      ∧ (l.sup.service ≠ .opened ∨ l.envelope.record = none → ∃ more,
          m.bus.queue = queued l.bus.queue (changes x k ++ toEvery (.release .cash p.amount) p.tag ::
            ⟨.notice (.payoutFailed outcome (p.binned + k)), p.console, p.tag⟩ :: more)
          ∧ more.all (fun o => match o.body with
              | .status none | .notice (.journal _ _) => true
              | _ => false) = true)
    let stacked := { p with stackedNotes := p.stackedNotes + 1, stackedValue := p.stackedValue + d }
    let diverted := { p with diverted := p.diverted + 1, binned := p.binned + 1 }
    let drewTwo := p.drawn.set i (p.drawn.get i + 1)
    let divertedTwo := { p with drawn := drewTwo, diverted := p.diverted + 2, binned := p.binned + 2 }
    let good := if live then { c with badRun := 0 } else c
    let missed := { p with drawn := p.drawn.set i (p.drawn.get i - 1) }
    goesOn (exec (.checkResult .good) ⟨q, l⟩)
      { taken good 0 stacked with
        transport := { l.transport with
          path := rest
          stacker := { kind := .cash, notes := l.transport.stacker.notes + 1
                       value := l.transport.stacker.value + d }
          pickList := (l.transport.pickList.map (fun e =>
            if e.position = i then { e with quota := e.quota - 1 } else e)).filter (fun e => 0 < e.quota) } }
      stacked
    ∧ goesOn (exec .checkMiss ⟨q, l⟩) (taken (bad (c.withCount (c.count + 1)) .miss) 0 missed) missed
    ∧ (l.binRoom = true → p.state = .purging ∨ p.diverted < 8 →
        goesOn (exec (.checkResult .reject) ⟨q, l⟩) (taken (bad c .rejects) 1 diverted) diverted)
    ∧ (l.binRoom = true → p.state = .picking → 8 ≤ p.diverted →
        crosses (exec (.checkResult .reject) ⟨q, l⟩) (taken (bad c .rejects) 1 diverted) diverted)
    ∧ (l.binRoom = false → refused (exec (.checkResult .reject) ⟨q, l⟩) (bad c .rejects) p.drawn 0)
    ∧ (l.cass.bin.count + 1 < l.cass.bin.capacity → l.sup.service ≠ .starting →
        (p.state = .purging ∨ p.diverted < 7 →
          goesOn (exec (.checkResult .double) ⟨q, l⟩) (taken doubled 2 divertedTwo) divertedTwo)
        ∧ (p.state = .picking → 7 ≤ p.diverted →
          crosses (exec (.checkResult .double) ⟨q, l⟩) (taken doubled 2 divertedTwo) divertedTwo))
    ∧ (l.binRoom = false → refused (exec (.checkResult .double) ⟨q, l⟩) doubled drewTwo 0)
    ∧ (l.sup.service ≠ .starting → l.cass.bin.count + 1 = l.cass.bin.capacity →
        refused (exec (.checkResult .double) ⟨q, l⟩) doubled drewTwo 1)

/-- A GOOD result that empties the note path with every quota met, or with the amount stacked where picks are halted:
the payout is BUNDLED and asks for the drawer. In a free one it is presented, its bundle in the tray and the drawer
extending; it waits for a CLOSE run, stays BUNDLED where the drawer is otherwise busy, and is purged FAILED_JAM where
the drawer is JAMMED or one of its drivers has a latched fault, LOCKED in lockdown. The picked cassette changes in its
run of bad picks alone.

A remix with a mix that fits the bin replaces the pick list and picking resumes, but for a position of it that is no
longer eligible, which halts the picks and asks again at once; one without a mix, or that does not fit, sends the
payout to PURGING with outcome FAILED_SHORT, or ends it so with nothing in the stacker. That the new list is looked at
for lost positions as it is taken is the model's reading (log entry 13); that the NOTICE JOURNAL of a returned slot
follows the payout's notice is log entry 23. -/
def Obligations.LastNotePresentsAndRemixResumes : Prop :=
  (∀ (p : Payout) (n : PathNote) (q : List Instr) (l : Lane), l.settled = true →
     l.payout = some p → p.state = .picking → l.transport.path = [n] →
     let i := n.position
     let c := l.cass.entry.get i
     let d := c.denomination.getD 0
     let good := if c.state = .fault ∨ c.state = .out ∨ 3 ≤ c.badRun then c else { c with badRun := 0 }
     let b : Bundle := ⟨.cash, l.transport.stacker.notes + 1, l.transport.stacker.value + d⟩
     let p' := { p with stackedNotes := p.stackedNotes + 1, stackedValue := p.stackedValue + d }
     let stacked : Lane := { l with
       payout := some p'
       cass := { l.cass with entry := l.cass.entry.set i good }
       transport := { l.transport with
         path := [], stacker := b
         pickList := (l.transport.pickList.map (fun e =>
           if e.position = i then { e with quota := e.quota - 1 } else e)).filter (fun e => 0 < e.quota) } }
     let bundled := stacked.positionLost
     let answer := exec (.checkResult .good) ⟨q, l⟩
     let faulty := l.drawer.position = .jammed ∨ l.latchedFault .drawerOut = true ∨ l.latchedFault .drawerIn = true
     let free := l.drawer.owner = none ∧ l.drawer.position = .home ∧ l.drawer.contents = .empty
       ∧ l.drawer.movement = none ∧ l.drawer.travel = none
     let waits := l.drawer.owner = none ∧ l.drawer.movement = some .close
     let able := ¬faulty ∧ l.lockdown.state = .clear
     (if bundled.transport.halted = true then p'.stackedValue = p.amount else stacked.transport.pickList = []) →
       (faulty → answer = .next ⟨q, bundled.purging p' .failedJam⟩)
       ∧ (¬faulty → l.lockdown.state ≠ .clear → answer = .next ⟨q, bundled.purging p' .locked⟩)
       ∧ (able → free → l.drawer.atEnd ≠ some .out → answer = .next ⟨q,
           ({ bundled with
             payout := some { p' with state := .presenting }
             transport := { bundled.transport with stacker := Bundle.empty }
             drawer := { l.drawer with
               contents := .cash, presented := b.notes, waiting := false
               owner := some ⟨.payout, p.tag⟩, lastOwnerTag := some p.tag } } : Lane).startRun .extend⟩)
       ∧ (able → ¬free → answer = .next ⟨q, { bundled with
           payout := some { p' with state := .bundled }
           drawer := if waits then { l.drawer with waiting := true } else l.drawer }⟩))
  ∧ (∀ (p : Payout) (a : MixAnswer) (q : List Instr) (l : Lane), l.settled = true →
     l.payout = some p → p.state = .picking → l.transport.path = [] → l.transport.remix = some a →
     let fits := fun (x : Mix) => p.stackedNotes + x.total + (8 - p.diverted) ≤ l.cass.bin.capacity - l.cass.bin.count
     (∀ x, a = .mix x → fits x →
       p.stackedValue ≠ p.amount ∨ (∀ e ∈ x.picks, e.2 = 0 ∨ (l.cass.entry.get e.1).eligible = true) →
       let resumed : Lane := { l with
         transport := { l.transport with
           pickList := x.picks.map (fun e => { position := e.1, quota := e.2 })
           halted := false, lost := none, remix := none } }
       exec .remixAnswer ⟨q, l⟩ = .next ⟨q, resumed.positionLost⟩
       ∧ ((∀ e ∈ x.picks, e.2 = 0 ∨ (l.cass.entry.get e.1).eligible = true) → resumed.positionLost = resumed))
     ∧ ((∀ x, a = .mix x → ¬fits x) →
       (l.transport.stacker.notes ≠ 0 → exec .remixAnswer ⟨q, l⟩ = .next ⟨q, l.purging p .failedShort⟩)
       ∧ (l.transport.stacker.notes = 0 → exec .remixAnswer ⟨q, l⟩ = .next ⟨q,
           ({ l with drawer := { l.drawer with waiting := false } } : Lane).payoutOver p
             (.purge .short p.drawn p.binned) (.payoutFailed .failedShort p.binned)⟩)))

/-- A transport jam in a payout that is PICKING or PURGING ends it FAILED_JAM: its PURGE record joins, its RELEASE
and notice are queued, own cash held is 0, the notes stay where they are, and the lane closes with a transport fault;
a cassette jammed there is FAULT, which is told. A jam in an intake's feeding, KEEP or giveback leaves it STOPPED with
its record and a notice of JAMMED, and the lane closes. A jam with nothing in motion marks the cassette alone.

A note the bin accepts raises its count by one, and a change of the bin's state is told. With the last note of the
stacker a purge is over: record, RELEASE, notice and own cash as after a jam, with its outcome, its unused slots
returned. A note refused in a purge stays in the stacker and ends the payout so too, and the lane closes with a purge
fault.

A refusal or a jam in a count leaves the tray RETAINED and closes the lane: a payout or a giveback ends RETRACTED,
and an intake's returns end as at the tray's end after a refusal and leave it STOPPED after a jam.

Homing's steps count what they deliver; a refusal or a jam stops the step, raises its cause, and the next step
begins, the stacker of step 1 then holding a CASH bundle of unknown notes and value where notes are left in it. A
refusal or a jam in step 2 leaves the tray RETAINED with the drawer's cause.

The model's choices: which step a delivery belongs to, that a note of the tray ends step 1, that a delivery or a jam
at any other time changes nothing more, and whether notes are left after any stop but the refusal of a stacker note
(log entries 2, 4, 6 and 7); what a jam in step 2 before its count leaves (log 6); a jammed count of a giveback ends it
RETRACTED, that of an intake's returns raises both transport causes, and a giveback stopped on the way to the stacker
tells 0 notes (log 12); zeros in fields that a notice's rule does not fill (log 21); the order of frames of one class,
the NOTICE JOURNAL of returned slots after the notice of what ends (log 23). -/
def Obligations.JamsAndTheBinEndMoneyInMotion : Prop :=
  ∀ (q : List Instr) (l : Lane),
    let homing := l.sup.service = .starting ∧ l.sup.homing.running = true
    let step := l.sup.homing.step
    let jam := fun at_ => exec (.transportJam at_) ⟨q, l⟩
    let note := fun source => exec (.binNoteDelivery source) ⟨q, l⟩
    (∀ p, l.payout = some p → ¬homing →
      (∀ at_, p.state = .picking ∨ p.state = .purging → l.drawer.counting = false →
        jam at_ = .next ⟨q, ((l.struckAt at_).payoutOver p (.purge .jam p.drawn p.binned)
          (.payoutFailed .failedJam p.binned)).closedFor { l.sup.causes with transportModule := true }⟩)
      ∧ (p.state = .purging → l.transport.path = [] → l.transport.stacker.notes ≠ 0 →
        let b := l.transport.stacker
        (l.binRoom = true → 1 < b.notes → note .stacker = .next ⟨q, { l.binned with
          payout := some { p with
            binned := p.binned + 1, stackedNotes := b.notes - 1, stackedValue := b.value }
          transport := { l.transport with stacker := { b with notes := b.notes - 1 } } }⟩)
        ∧ (l.binRoom = true → b.notes = 1 →
          let outcome := p.outcome.getD .failedJam
          note .stacker = .next ⟨q,
            ({ l.binned with transport := { l.transport with stacker := Bundle.empty } } : Lane).payoutOver p
              (.purge outcome.reason p.drawn (p.binned + 1)) (.payoutFailed outcome (p.binned + 1))⟩)
        ∧ (l.binRoom = false →
          let outcome := p.outcome.getD .failedRejects
          note .stacker = .next ⟨q, (l.payoutOver p (.purge outcome.reason p.drawn p.binned)
            (.payoutFailed outcome p.binned)).closedFor { l.sup.causes with purgeModule := true }⟩)))
    ∧ (∀ i at_, l.payout = none → l.intake = some i → ¬homing → l.drawer.counting = false →
      let stops := fun records news => jam at_ = .next ⟨q,
        ((l.struckAt at_).intakeStopped i records news).closedFor { l.sup.causes with transportModule := true }⟩
      (i.state = .feeding → stops (captured .suspect i.suspect)
        (.intakeEnd .jammed i.counts (l.escrowValue i) i.returned i.suspect i.uncollected i.trayLeft))
      ∧ (i.state = .keeping → stops (if i.keptCount = 0 then [] else [l.keptRecord i])
        (.escrowEnd .jammed none i.keptCount 0 0 0 i.escrow.length))
      ∧ (i.state = .givingBack → i.escrow ≠ [] → stops [] (.escrowEnd .jammed (some i.cause) 0 0 0 0 0)))
    ∧ (∀ at_, ¬homing → l.drawer.counting = false →
      (∀ p, l.payout = some p → p.state ≠ .picking ∧ p.state ≠ .purging) →
      (∀ i, l.payout = none → l.intake = some i →
        i.state ≠ .feeding ∧ i.state ≠ .keeping ∧ (i.state = .givingBack → i.escrow = [])) →
      jam at_ = .next ⟨q, l.struckAt at_⟩)
    ∧ (∀ (jammed : Bool) at_ t, l.drawer.counting = true → ¬homing →
      (jammed = false → l.drawer.counted < 100 ∧ l.binRoom = false) →
      let stops := if jammed then jam at_ else note .tray
      let n := l.drawer.counted
      let causes := if jammed then { l.sup.causes with transportDrawer := true }
        else { l.sup.causes with purgeDrawer := true }
      let left : Lane := { (if jammed then l.struckAt at_ else l) with
        drawer := { l.drawer with contents := .retained, counting := false } }
      (l.drawer.owner = none → stops = .next ⟨q, left.closedFor causes⟩)
      ∧ (∀ p, l.drawer.owner = some ⟨.payout, t⟩ → l.payout = some p →
        stops = .next ⟨q, (left.payoutOver p
          (.retract p.tag l.drawer.presented n p.drawn (p.binned + n))
          (.retracted l.drawer.presented n)).closedFor causes⟩)
      ∧ ∀ i, l.intake = some i →
        let late := { i with uncollected := i.uncollected + n }
        let taken := captured .uncollected n
        let written := { late with slots := i.slots - taken.length }
        let recorded : Lane := { left with
          journal := l.joining taken
          drawer := { left.drawer with owner := none, receiving := false } }
        (l.drawer.owner = some ⟨.intake, t⟩ → i.state = .returning →
          (jammed = false → stops = .next ⟨q, (recorded.depositOver written).closedFor causes⟩)
          ∧ (jammed = true → stops = .next ⟨q, (left.intakeStopped late taken
              (.intakeEnd .jammed i.counts (l.escrowValue i) i.returned i.suspect late.uncollected
                i.trayLeft)).closedFor { causes with transportModule := true }⟩))
        ∧ (l.drawer.owner = some ⟨.giveback, t⟩ → i.state = .givingBack →
          stops = .next ⟨q, (recorded.givebackOver written .retracted n 0).closedFor causes⟩))
    ∧ (l.drawer.counting = true → l.drawer.counted < 100 → l.binRoom = true → ¬(homing ∧ step = .module) →
      note .tray = .next ⟨q, { l.binned with
        sup := { l.sup with homing :=
          if homing then { l.sup.homing with trayNotes := l.sup.homing.trayNotes + 1 } else l.sup.homing }
        drawer := { l.drawer with counted := l.drawer.counted + 1 } }⟩)
    ∧ (homing →
      let left : Bundle := ⟨.cash, Config.strandedNotes l.free, Config.strandedValue l.free⟩
      let held := if Config.stackerHolds l.free then left else l.transport.stacker
      let counts := fun source (h : Homing) =>
        note source = .next ⟨q, { l.binned with sup := { l.sup with homing := h } }⟩
      let jams : Option Position → Lane := fun at_ => { l.struckAt at_ with
        sup := { l.sup with causes := { l.sup.causes with transportModule := true } } }
      let refuses : Lane := { l with sup := { l.sup with causes := { l.sup.causes with purgeModule := true } } }
      let strands := fun (m : Lane) (b : Bundle) =>
        ({ m with transport := { l.transport with stacker := b }, free := l.free + 1 } : Lane).drawerHoming
      let retains := fun (m : Lane) (causes : Causes) =>
        let st := if step = .drawer then .escrow else step
        ({ m with
          sup := { l.sup with causes := causes, homing := { l.sup.homing with step := st } }
          drawer := { l.drawer with contents := .retained, counting := false } } : Lane)
      (step = .module →
        (∀ source : NoteSource, source = .notePath ∨ source = .stacker →
          (l.binRoom = true → counts source { l.sup.homing with moduleNotes := l.sup.homing.moduleNotes + 1 })
          ∧ (l.binRoom = false → note source = .next ⟨q,
              strands refuses (if source = NoteSource.stacker then left else held)⟩))
        ∧ (∀ at_, l.drawer.counting = false → jam at_ = .next ⟨q, strands (jams at_) held⟩)
        ∧ note .tray = exec (.binNoteDelivery .tray) ⟨q, l.drawerHoming⟩)
      ∧ (∀ at_, step = .drawer ∨ l.drawer.counting = true → l.drawer.owner = none →
        jam at_ = .next ⟨q, retains (l.struckAt at_) { l.sup.causes with transportDrawer := true }⟩)
      ∧ (l.drawer.counting = true → l.drawer.counted < 100 → l.binRoom = false → step ≠ .module →
        l.drawer.owner = none →
        note .tray = .next ⟨q, retains l { l.sup.causes with purgeDrawer := true }⟩)
      ∧ (step = .escrow →
        (l.binRoom = true → counts .escrow { l.sup.homing with escrowNotes := l.sup.homing.escrowNotes + 1 })
        ∧ (l.binRoom = false → note .escrow = .next ⟨q, refuses.envelopeHoming⟩)
        ∧ (∀ at_, l.drawer.counting = false → jam at_ = .next ⟨q, (jams at_).envelopeHoming⟩))
      ∧ (∀ at_, step = .envelope → l.drawer.counting = false → jam at_ = .next ⟨q, l.struckAt at_⟩))
    ∧ (l.drawer.counting = false ∨ 100 ≤ l.drawer.counted → ¬(homing ∧ step = .module) →
      note .tray = .next ⟨q, l⟩)
    ∧ (¬(homing ∧ step = .module) → note .notePath = .next ⟨q, l⟩)
    ∧ (¬(homing ∧ step = .escrow) → note .escrow = .next ⟨q, l⟩)
    ∧ (homing → step ≠ .module → note .stacker = .next ⟨q, l⟩)
    ∧ (¬homing → (∀ p, l.payout = some p → p.state = .purging → l.transport.path = [] →
        l.transport.stacker.notes = 0) → note .stacker = .next ⟨q, l⟩)

/-! ### The deal drawer -/

/-- An end sensor that reports arrival ends the run that is to end there, and no other. An EXTEND run presents a
payout's cash, or retracts it at once where a recall is pending; RETURN contents start the take timer; one on a
receive starts the wait timer, or in lockdown the retract. A RETRACT run starts the count, or ends a receive: its
notes go to the feeder, or without notes the intake ends. A CLOSE run leaves the drawer free and grants a payout's
waiting request, or refuses it; a deferred present of a giveback is asked again there. The HOMING run starts homing's
count of the tray, or no count where a jam has taken homing past its step 2. A CLEAR run completes the clearing: the
DRAWER_CLEARED record joins, the owning payout ends FAILED_JAM, an owning intake goes on by the state it was jammed
in, the drawer's causes are withdrawn and the LANE request is answered DONE. A re-drive ends, at OUT and at HOME
alike: its driver goes off and its timer stops. At HOME it leaves a drawer without owner and notes free, which what
waits for it asks for.

The travel timer's expiry leaves the drawer JAMMED, both drivers off and the waits stopped; the lane closes with
cause DRAWER, an owning payout is JAMMED and keeps its claim, a BUNDLED payout that waits for the drawer is purged,
and homing goes on to its step 3. A CLEAR run that fails leaves the drawer as it was and is answered UNAVAILABLE.

The model's choices: one reading for the two end sensors, a re-drive at HOME counts as a run (log entry 13); an
expiry with no travel running and an arrival that ends no run change nothing else (log entry 2); a HOME arrival in
homing's step 1 is that of the HOMING run (log entry 6); a count still running when a re-drive jams ends with it (log
entry 12); the NOTICE JOURNAL of a returned slot before REPLY UNAVAILABLE of a failed clearing, and after the notice
of what a clearing or a receive ends (log entry 23); zeros in fields that a notice's result does not fill (log entry
21). -/
def Obligations.DrawerRunEndsAtItsSensorOrJams : Prop :=
  (∀ (q : List Instr) (l : Lane),
     (∀ e, e = .out ∨ l.homesIn .module = false → (l.drawer.movement = none ∧ l.drawer.travel = none)
         ∨ (∃ m, l.drawer.movement = some m ∧ (if m = .extend then DrawerEnd.out else .home) ≠ e) →
       exec (.endSensorArrival e) ⟨q, l⟩ = .next ⟨q, { l with drawer := { l.drawer with atEnd := some e } }⟩)
     ∧ (l.homesIn .module = true → ∃ m, exec (.endSensorArrival .home) ⟨q, l⟩ = .next ⟨q, m⟩
         ∧ m = { l with
             sup := { l.sup with homing := { l.sup.homing with step := .drawer } }
             drivers := m.drivers
             drawer := { l.drawer with
               atEnd := some .home, position := .home, movement := none, travel := none, take := none
               wait := none, takeFilter := none, placementFilter := none, counted := 0, counting := true } }
         ∧ (m.driver .drawerIn).commanded = false ∧ (m.driver .drawerOut).commanded = false)
     ∧ (l.homesIn .drawer = true → l.drawer.movement = some .homing →
         exec (.endSensorArrival .home) ⟨q, l⟩ = .next ⟨q, { l with
           drivers := (l.command .drawerIn false).drivers
           drawer := { l.drawer with
             atEnd := some .home, position := .home, movement := none, travel := none
             counted := 0, counting := true } }⟩)
     ∧ (l.homesIn .escrow = true ∨ l.homesIn .envelope = true → l.drawer.movement = some .homing →
         exec (.endSensorArrival .home) ⟨q, l⟩ = .next ⟨q, { l with
           drivers := (l.command .drawerIn false).drivers
           drawer := { l.drawer with
             atEnd := some .home, position := .home, movement := none, travel := none } }⟩)
     ∧ (∀ p t, l.drawer.movement = some .extend → l.drawer.owner = some ⟨.payout, t⟩ → l.payout = some p →
         l.drawer.receiving = false → p.recallPending = false →
         exec (.endSensorArrival .out) ⟨q, l⟩ = .next ⟨q,
           { l.sending [⟨.notice (.presented p.stackedNotes p.amount), p.console, p.tag⟩] with
             payout := some { p with state := .presented }
             drivers := (l.command .drawerOut false).drivers
             drawer := { l.drawer with
               atEnd := some .out, position := .out, movement := none, travel := none
               take := some (l.clock + l.settings.takeTimeout * 1000)
               takeFilter := if (l.drawer.contents = .cash ∨ l.drawer.contents = .returned)
                 ∧ l.drawer.tray = false then some (l.clock + 1000) else none
               placementFilter := none } }⟩)
     ∧ (∀ t, l.drawer.movement = some .extend → l.drawer.owner = some ⟨.intake, t⟩ →
         l.drawer.receiving = true → l.drawer.contents = .empty → l.lockdown.state = .clear →
         exec (.endSensorArrival .out) ⟨q, l⟩ = .next ⟨q, { l with
           drivers := (l.command .drawerOut false).drivers
           drawer := { l.drawer with
             atEnd := some .out, position := .out, movement := none, travel := none
             wait := some (l.clock + l.settings.intakeWait * 1000), takeFilter := none
             placementFilter := if l.drawer.tray then some (l.clock + 2000) else none } }⟩)
     ∧ (l.drawer.movement = some .retract → l.drawer.receiving = false → l.homesIn .module = false →
         exec (.endSensorArrival .home) ⟨q, l⟩ = .next ⟨q, { l with
           drivers := (l.command .drawerIn false).drivers
           drawer := { l.drawer with
             atEnd := some .home, position := .home, movement := none, travel := none
             counted := 0, counting := true } }⟩)
     ∧ (∀ i t, l.drawer.movement = some .retract → l.drawer.receiving = true → l.homesIn .module = false →
         l.drawer.owner = some ⟨.intake, t⟩ → l.intake = some i →
         l.drawer.contents = .customer ∨ (l.drawer.contents = .empty ∧ l.drawer.tray = true) →
         exec (.endSensorArrival .home) ⟨q, l⟩ = .next ⟨q, { l with
           intake := some { i with state := .feeding }
           drivers := (l.command .drawerIn false).drivers
           drawer := { l.drawer with
             atEnd := some .home, position := .home, movement := none, travel := none
             receiving := false, contents := .customer } }⟩)
     ∧ (l.drawer.movement = some .close → l.payout = none → l.intake = none → l.homesIn .module = false →
         exec (.endSensorArrival .home) ⟨q, l⟩ = .next ⟨q, { l with
           drivers := (l.command .drawerIn false).drivers
           drawer := { l.drawer with
             atEnd := some .home, position := .home, movement := none, travel := none, waiting := false } }⟩)
     ∧ (l.drawer.movement = none → l.drawer.travel.isSome = true → l.drawer.position = .out →
         exec (.endSensorArrival .out) ⟨q, l⟩ = .next ⟨q, { l with
           drivers := (l.command .drawerOut false).drivers
           drawer := { l.drawer with atEnd := some .out, travel := none } }⟩)
     ∧ (l.drawer.movement = some .extend →
       let out : Lane := { l with
         drivers := (l.command .drawerOut false).drivers
         drawer := { l.drawer with
           atEnd := some .out, position := .out, movement := none, travel := none } }
       (∀ p t, l.drawer.owner = some ⟨.payout, t⟩ → l.payout = some p → p.recallPending = true →
         l.drawer.contents = .cash →
         exec (.endSensorArrival .out) ⟨q, l⟩ = .next ⟨q,
           ({ out with payout := some { p with state := .retracting } } : Lane).startRun .retract⟩)
       ∧ (∀ t, l.drawer.owner = some ⟨.intake, t⟩ ∨ l.drawer.owner = some ⟨.giveback, t⟩ →
         (l.drawer.receiving = false → l.drawer.contents = .returned →
           exec (.endSensorArrival .out) ⟨q, l⟩ = .next ⟨q, { out with
             drawer := { out.drawer with
               take := some (l.clock + l.settings.takeTimeout * 1000)
               takeFilter := if l.drawer.tray = false then some (l.clock + 1000) else none
               placementFilter := none } }⟩)
         ∧ (l.drawer.receiving = true → l.lockdown.state ≠ .clear →
           exec (.endSensorArrival .out) ⟨q, l⟩ = .next ⟨q, out.startRun .retract⟩))))
  ∧ (∀ (q : List Instr) (l : Lane), l.homesIn .module = false →
     let arrives := exec (.endSensorArrival .home) ⟨q, l⟩
     let home : Lane := { l with
       drivers := (l.command .drawerIn false).drivers
       drawer := { l.drawer with
         atEnd := some .home, position := .home, movement := none, travel := none } }
     let freed := fun (x : Lane) => { x with drawer := { x.drawer with owner := none, receiving := false } }
     let faulty := l.latchedFault .drawerOut = true ∨ l.latchedFault .drawerIn = true
     let presents := fun (x : Lane) (o : Owner) => ({ x with
       transport := { l.transport with stacker := Bundle.empty }
       drawer := { x.drawer with
         owner := some o, lastOwnerTag := some o.tag, waiting := false
         presented := l.transport.stacker.notes
         contents := if l.transport.stacker.kind = .cash then .cash else .returned } } : Lane).startRun .extend
     let asks := fun (x : Lane) =>
       (∀ p, l.payout = some p → p.state = .bundled → l.intake = none →
         (¬faulty → l.lockdown.state = .clear → arrives = .next ⟨q,
           presents { x with payout := some { p with state := .presenting } } ⟨.payout, p.tag⟩⟩)
         ∧ (faulty ∨ l.lockdown.state ≠ .clear → l.transport.path ≠ [] ∨ l.transport.stacker.notes ≠ 0 →
           arrives = .next ⟨q, { x with
             payout := some { p with state := .purging, outcome := some (if faulty then .failedJam else .locked) }
             transport := { l.transport with pickList := [], halted := true, lost := none, remix := none }
             drawer := { x.drawer with waiting := false } }⟩))
       ∧ ((∀ p, l.payout = some p → p.state ≠ .bundled) →
         ((∀ i, l.intake = some i → i.presentDeferred = false ∨ (i.state ≠ .returning ∧ i.state ≠ .givingBack)) →
           arrives = .next ⟨q, x⟩)
         ∧ (faulty ∨ l.lockdown.state ≠ .clear → arrives = .next ⟨q, x⟩)
         ∧ ∀ i, l.intake = some i → i.presentDeferred = true → i.state = .givingBack → ¬faulty →
           l.lockdown.state = .clear → arrives = .next ⟨q, presents { x with
             intake := some { i with presentDeferred := false, presentMade := true } } ⟨.giveback, i.tag⟩⟩)
     (∀ i t, l.drawer.movement = some .retract → l.drawer.receiving = true → l.payout = none →
       l.drawer.owner = some ⟨.intake, t⟩ → l.intake = some i →
       l.drawer.contents = .empty → l.drawer.tray = false →
       arrives = .next ⟨q, (freed home).receiveOver i⟩)
     ∧ (l.drawer.movement = some .close → l.drawer.owner = none → l.drawer.contents = .empty →
       asks { home with drawer := { home.drawer with waiting := false } })
     ∧ (l.drawer.movement = none → l.drawer.travel.isSome = true → l.drawer.position = .home →
       (l.drawer.owner ≠ none ∨ l.drawer.contents ≠ .empty → arrives = .next ⟨q, home⟩)
       ∧ (l.drawer.owner = none → l.drawer.contents = .empty → asks home))
     ∧ (∀ c, l.drawer.movement = some .clear → l.sup.clearing = some c →
       let unaccounted := l.drawer.presented - l.drawer.counted
       let tag := match l.drawer.owner with | some o => some o.tag | none => l.drawer.lastOwnerTag
       let slots := fun n => if c.newSlot then n else n - 1
       let cleared : Lane := { home with
         journal := { l.journal with queue := l.journal.queue ++
           [{ record := .drawerCleared tag unaccounted, seconds := l.wallSeconds, reserved := true }] }
         drawer := { home.drawer with contents := .empty, presented := 0, counted := 0 } }
       let answered := fun (x : Lane) =>
         { x.sending [replyTo c.request 19 .done] with
           sup := { l.sup with
             clearing := none
             causes := { l.sup.causes with drawer := false, purgeDrawer := false, transportDrawer := false } } }
       (l.drawer.owner = none → l.payout = none → l.intake = none → arrives = .next ⟨q, answered cleared⟩)
       ∧ (∀ p t, l.drawer.owner = some ⟨.payout, t⟩ → l.payout = some p → l.intake = none →
         arrives = .next ⟨q, answered
           (({ (freed cleared).sending [toEvery (.release .cash p.amount) p.tag,
                ⟨.notice (.payoutFailed .failedJam p.binned), p.console, p.tag⟩] with
              payout := none
              ledgers := { l.ledgers with cash := 0 }
              transport := { l.transport with
                pickList := [], halted := false, lost := none, remix := none } } : Lane).returning
            (slots p.slots))⟩)
       ∧ (∀ i t, l.drawer.owner = some ⟨.intake, t⟩ → l.payout = none → l.intake = some i →
         let goesOn := { i with slots := slots i.slots, jammedFrom := none }
         (i.jammedFrom = some .receiving → arrives = .next ⟨q, answered ((freed cleared).receiveOver goesOn)⟩)
         ∧ (i.jammedFrom = some .returning → arrives = .next ⟨q, answered ((freed cleared).depositOver goesOn)⟩)
         ∧ (i.jammedFrom = some .feeding →
           let fed : Intake := if i.suspect = 0 then goesOn else { goesOn with slots := goesOn.slots - 1 }
           let captured : Lane := if i.suspect = 0 then cleared else { cleared with
             journal := { cleared.journal with queue := cleared.journal.queue ++
               [{ record := .capture .suspect i.suspect, seconds := l.wallSeconds, reserved := true }] } }
           let b := l.transport.stacker
           (b.notes = 0 → i.trayLeft = false →
             arrives = .next ⟨q, answered ((freed captured).depositOver { fed with state := .feeding })⟩)
           ∧ (b.notes ≠ 0 ∨ i.trayLeft = true → l.lockdown.state = .clear →
             l.latchedFault .drawerOut = false → l.latchedFault .drawerIn = false →
             arrives = .next ⟨q, answered (({ captured with
               intake := some { fed with state := .returning, presentDeferred := false, presentMade := true }
               transport := { l.transport with stacker := Bundle.empty }
               drawer := { cleared.drawer with
                 presented := b.notes, contents := if b.kind = .cash then .cash else .returned } } : Lane).startRun
               .extend)⟩)))
       ∧ (∀ i t, l.drawer.owner = some ⟨.giveback, t⟩ → l.payout = none → l.intake = some i →
         i.jammedFrom = some .givingBack →
         arrives = .next ⟨q, answered
           ((freed cleared).givebackOver { i with slots := slots i.slots } .cleared 0 unaccounted)⟩)))
  ∧ (∀ (q : List Instr) (l : Lane),
     (l.drawer.travel = none → exec .travelTimerExpiry ⟨q, l⟩ = .next ⟨q, l⟩)
     ∧ (l.drawer.travel.isSome = true → l.drawer.movement ≠ some .clear →
       ∃ m, exec .travelTimerExpiry ⟨q, l⟩ = .next ⟨q, m⟩
         ∧ m.drawer = { l.drawer with
             position := .jammed, movement := none, travel := none, take := none, wait := none
             takeFilter := none, placementFilter := none, counting := false, waiting := false }
         ∧ (m.driver .drawerOut).commanded = false ∧ (m.driver .drawerIn).commanded = false
         ∧ m.sup.causes = { l.sup.causes with drawer := true }
         ∧ m.sup.service = (if l.sup.service = .opened then .closed else l.sup.service)
         ∧ m.cass = l.cass ∧ m.settings = l.settings ∧ m.lockdown = l.lockdown ∧ m.loops = l.loops
         ∧ m.journal.cells = l.journal.cells
         ∧ (∀ p t, l.drawer.owner = some ⟨.payout, t⟩ → l.payout = some p →
             m.payout = some { p with state := .jammed } ∧ m.ledgers.cash = l.ledgers.cash
             ∧ m.transport = l.transport)
         ∧ (∀ p, l.drawer.owner = none → l.drawer.waiting = true → l.payout = some p → p.state = .bundled →
             l.transport.path ≠ [] ∨ l.transport.stacker.notes ≠ 0 →
             m.payout = some { p with state := .purging, outcome := some .failedJam })
         ∧ m.sup.homing = { l.sup.homing with
             step := if l.homesIn .drawer then .escrow else l.sup.homing.step }
         ∧ (∀ i t, l.drawer.owner = some ⟨.intake, t⟩ ∨ l.drawer.owner = some ⟨.giveback, t⟩ →
             l.intake = some i → m.intake = some { i with state := .jammed, jammedFrom := some i.state }))
     ∧ (∀ c, l.drawer.travel.isSome = true → l.drawer.movement = some .clear → l.sup.clearing = some c →
       let base : Lane := { l with
         sup := { l.sup with clearing := none }
         drivers := (l.command .drawerIn false).drivers
         drawer := { l.drawer with position := .jammed, movement := none, travel := none } }
       exec .travelTimerExpiry ⟨q, l⟩ = .next ⟨q,
         (base.returning (if c.newSlot then 1 else 0)).sending [replyTo c.request 19 .unavailable]⟩))

/-- A drawer at rest whose end sensor stops reporting is driven back to that end under the travel timer; in lockdown
one at OUT is retracted instead, but for a payout's cash under policy LEAVE. A tray reading starts and stops the
filters at OUT alone. That the loss of a sensor which is not reporting changes nothing is the model's choice (log
entry 2), as is one reading for the two end sensors (log entry 13). -/
def Obligations.SensorLossRedrivesAndTrayStartsFilters : Prop :=
  ∀ (q : List Instr) (l : Lane),
    let lost := { l.drawer with atEnd := none }
    let barred := l.lockdown.state ≠ .clear
      ∧ ¬(l.drawer.contents = .cash ∧ l.settings.policy = .leave)
    (∀ e, l.drawer.atEnd ≠ some e → exec (.drawerSensorLost e) ⟨q, l⟩ = .next ⟨q, l⟩)
    ∧ (∀ e, l.drawer.atEnd = some e → l.drawer.movement.isSome = true ∨ l.drawer.travel.isSome = true
          ∨ l.drawer.position ≠ (if e = .home then .home else .out) →
        exec (.drawerSensorLost e) ⟨q, l⟩ = .next ⟨q, { l with drawer := lost }⟩)
    ∧ (l.drawer.movement = none → l.drawer.travel = none →
      (l.drawer.position = .home → l.drawer.atEnd = some .home →
        exec (.drawerSensorLost .home) ⟨q, l⟩ = .next ⟨q, { l with
          drivers := (l.command .drawerIn true).drivers
          drawer := { lost with travel := some (l.clock + 4000) } }⟩)
      ∧ (l.drawer.position = .out → l.drawer.atEnd = some .out → ¬barred →
        exec (.drawerSensorLost .out) ⟨q, l⟩ = .next ⟨q, { l with
          drivers := (l.command .drawerOut true).drivers
          drawer := { lost with travel := some (l.clock + 4000) } }⟩)
      ∧ (l.drawer.position = .out → l.drawer.atEnd = some .out → barred →
        exec (.drawerSensorLost .out) ⟨q, l⟩ = .next ⟨q,
          { ({ l with drawer := lost } : Lane).startRun .retract with
            payout := match l.drawer.owner with
              | some ⟨.payout, _⟩ => l.payout.map (fun p => { p with state := .retracting })
              | _ => l.payout }⟩))
    ∧ ∀ occupied, exec (.traySensorChange occupied) ⟨q, l⟩ = .next ⟨q, { l with drawer :=
        if l.drawer.tray = occupied then l.drawer
        else if l.drawer.position = .out then { l.drawer with
          tray := occupied, traySince := l.clock
          takeFilter := if (l.drawer.contents = .cash ∨ l.drawer.contents = .returned) ∧ occupied = false
            then some (l.clock + 1000) else none
          placementFilter := if l.drawer.receiving = true ∧ l.drawer.contents = .empty ∧ occupied = true
            then some (l.clock + 2000) else none }
        else { l.drawer with tray := occupied, traySince := l.clock } }⟩

/-- The waits at OUT: the take filter decides the take, which ends the owning payout PAID with its record,
its claim released and a CLOSE run; the take timer starts a retract; the placement filter makes the contents
CUSTOMER and, as the wait timer's expiry, brings the drawer in. The take of an intake's returns leaves it HELD or
ends it, with its notice INTAKE_END; the take of a giveback ends it with its notice ESCROW_END TAKEN.

The count of a retract ends with the tray: contents EMPTY, the counted notes added to binned, and the
owning payout RETRACTED with its record and its claim released. The counted notes of an intake's returns or of a
giveback are added to uncollected and, if there are any, make a CAPTURE record; the returns then end as at the
take, the giveback with its notice ESCROW_END RETRACTED. Homing's count of the tray is followed by step 3.

The model's choices: an expiry with its timer stopped, and an exhausted tray with no count, change nothing (log entry
2); an exhausted tray in homing's step 1 ends that step and begins step 2, whose run it then meets (log entry 6); the
notice ESCROW_END carries 0 in the fields that its outcome does not fill (log entry 21); the NOTICE JOURNAL which the
returned slots may cause is queued after the notice PAID, RETRACTED, INTAKE_END or ESCROW_END (log entry 23). -/
def Obligations.WaitsAtOutAndCountsEndTheirWay : Prop :=
  (∀ (q : List Instr) (l : Lane),
     (l.drawer.takeFilter = none → exec .takeFilterExpiry ⟨q, l⟩ = .next ⟨q, l⟩)
     ∧ (l.drawer.take = none → exec .takeTimerExpiry ⟨q, l⟩ = .next ⟨q, l⟩)
     ∧ (l.drawer.placementFilter = none → exec .placementFilterExpiry ⟨q, l⟩ = .next ⟨q, l⟩)
     ∧ (l.drawer.wait = none → exec .waitTimerExpiry ⟨q, l⟩ = .next ⟨q, l⟩)
     ∧ (l.drawer.atEnd ≠ some .home →
       (∀ p t, l.drawer.takeFilter.isSome = true → l.drawer.owner = some ⟨.payout, t⟩ → l.payout = some p →
         ∃ m, exec .takeFilterExpiry ⟨q, l⟩ = .next ⟨q, m⟩
           ∧ m = { l with
               payout := none
               ledgers := { l.ledgers with cash := 0 }
               transport := { l.transport with pickList := [], halted := false, lost := none, remix := none }
               drawer := { l.drawer with
                 contents := .empty, position := .retracting, movement := some .close
                 travel := some (l.clock + 4000), take := none, wait := none, takeFilter := none
                 placementFilter := none, owner := none, receiving := false }
               drivers := (l.startRun .close).drivers
               journal := { l.journal with
                 queue := l.journal.queue ++ [{ record := .paid p.tag p.amount p.drawn p.binned
                                                seconds := l.wallSeconds, reserved := true }]
                 reserved := m.journal.reserved, state := m.journal.state }
               bus := { l.bus with queue := m.bus.queue } }
           ∧ ∃ news, journalNoticesOnly news = true ∧ m.bus.queue = queued l.bus.queue
               ([toEvery (.release .cash p.amount) p.tag, ⟨.notice (.paid p.amount), p.console, p.tag⟩] ++ news))
       ∧ (∀ i t, l.drawer.takeFilter.isSome = true → l.intake = some i →
         let closing : Lane := { l with
           drivers := (l.startRun .close).drivers
           drawer := { (l.startRun .close).drawer with contents := .empty, owner := none, receiving := false } }
         (l.drawer.owner = some ⟨.intake, t⟩ → i.state = .returning →
           exec .takeFilterExpiry ⟨q, l⟩ = .next ⟨q, closing.depositOver i⟩)
         ∧ (l.drawer.owner = some ⟨.giveback, t⟩ → i.state = .givingBack →
           exec .takeFilterExpiry ⟨q, l⟩ = .next ⟨q, closing.givebackOver i .taken 0 0⟩))
       ∧ (l.drawer.take.isSome = true →
         exec .takeTimerExpiry ⟨q, l⟩ = .next ⟨q, { l.startRun .retract with
           payout := match l.drawer.owner with
             | some ⟨.payout, _⟩ => l.payout.map (fun p => { p with state := .retracting })
             | _ => l.payout }⟩)
       ∧ (l.drawer.placementFilter.isSome = true →
         exec .placementFilterExpiry ⟨q, l⟩ = .next ⟨q,
           ({ l with drawer := { l.drawer with contents := .customer } } : Lane).startRun .retract⟩)
       ∧ (l.drawer.wait.isSome = true →
         exec .waitTimerExpiry ⟨q, l⟩ = .next ⟨q, l.startRun .retract⟩)))
  ∧ (∀ (q : List Instr) (l : Lane),
     (l.drawer.counting = false → l.homesIn .module = false →
       exec .retractTrayExhausted ⟨q, l⟩ = .next ⟨q, l⟩)
     ∧ (l.homesIn .module = true →
       exec .retractTrayExhausted ⟨q, l⟩ = exec .retractTrayExhausted ⟨q, l.drawerHoming⟩
       ∧ (l.drawer.counting = false → l.drawer.atEnd ≠ some .home →
         exec .retractTrayExhausted ⟨q, l⟩ = .next ⟨q, l.drawerHoming⟩))
     ∧ (l.drawer.counting = true → l.settled = true → l.drawer.owner = none → l.homesIn .drawer = true →
       l.payout = none → l.intake = none →
       exec .retractTrayExhausted ⟨q, l⟩ = .next ⟨q, { l with
         sup := { l.sup with homing := { l.sup.homing with step := .escrow } }
         drawer := { l.drawer with counting := false, contents := .empty } }⟩)
     ∧ (∀ i t, l.drawer.counting = true → l.settled = true → l.sup.service ≠ .starting → l.payout = none →
       l.intake = some i →
       let n := l.drawer.counted
       let counted := { i with
         uncollected := i.uncollected + n, slots := if n = 0 then i.slots else i.slots - 1 }
       let emptied : Lane := { l with
         drawer := { l.drawer with counting := false, contents := .empty, owner := none, receiving := false }
         intake := some counted
         journal := if n = 0 then l.journal else { l.journal with queue := l.journal.queue ++
           [{ record := .capture .uncollected n, seconds := l.wallSeconds, reserved := true }] } }
       (l.drawer.owner = some ⟨.intake, t⟩ → i.state = .returning →
         exec .retractTrayExhausted ⟨q, l⟩ = .next ⟨q, emptied.depositOver counted⟩)
       ∧ (l.drawer.owner = some ⟨.giveback, t⟩ → i.state = .givingBack →
         exec .retractTrayExhausted ⟨q, l⟩ = .next ⟨q, emptied.givebackOver counted .retracted n 0⟩))
     ∧ ∀ p t, l.drawer.counting = true → l.settled = true → l.drawer.owner = some ⟨.payout, t⟩ →
       l.payout = some p → l.intake = none → l.sup.service ≠ .starting →
       let b := p.binned + l.drawer.counted
       ∃ m, exec .retractTrayExhausted ⟨q, l⟩ = .next ⟨q, m⟩
         ∧ m = { l with
             payout := none
             ledgers := { l.ledgers with cash := 0 }
             transport := { l.transport with pickList := [], halted := false, lost := none, remix := none }
             drawer := { l.drawer with counting := false, contents := .empty, owner := none, receiving := false }
             journal := { l.journal with
               queue := l.journal.queue ++
                 [{ record := .retract p.tag l.drawer.presented l.drawer.counted p.drawn b
                    seconds := l.wallSeconds, reserved := true }]
               reserved := m.journal.reserved, state := m.journal.state }
             bus := { l.bus with queue := m.bus.queue } }
         ∧ ∃ news, journalNoticesOnly news = true ∧ m.bus.queue = queued l.bus.queue
             ([toEvery (.release .cash p.amount) p.tag,
               ⟨.notice (.retracted l.drawer.presented l.drawer.counted), p.console, p.tag⟩] ++ news))

/-! ### Note intake and escrow -/

/-- An INTAKE is tested in the order of R76; the first failing test gives the REPLY and nothing else
changes. That a re-drive counts as a run in progress, so that the drawer is not free, is the model's choice (log
entry 13). -/
def Obligations.IntakeTestsInOrder : Prop :=
  ∀ (h : Sender) (max : Byte) (q : List Instr) (l : Lane), l.takes h = true →
    let tests : List (Bool × ReplyCode) :=
      [(l.settings.attending != some h.source, .notPermitted),
       (max == 0#8, .range),
       (l.sup.service != .opened, .state),
       (l.lockdown.state != .clear, .locked),
       (l.payout.isSome || l.intake.isSome, .busy),
       (l.drawer.position == .jammed || l.latchedFault .drawerOut || l.latchedFault .drawerIn, .unavailable),
       (!(l.drawer.owner == none && l.drawer.position == .home && l.drawer.contents == .empty
          && l.drawer.movement == none && l.drawer.travel == none), .busy),
       (l.transport.stacker.kind != .empty, .unavailable),
       (l.cass.bin.capacity - l.cass.bin.count < 100, .unavailable),
       (!l.canReserve 3, .journal)]
    ∀ code, firstFailing tests = some code →
      exec (.intake h max) ⟨q, l⟩ = .next ⟨q, l.sending [replyTo h 7 code]⟩

/-- An INTAKE that passes is RECEIVING with its maximum held to 40, three slots are reserved, the drawer is
its own and extends for a receive, and the REPLY is ACCEPTED. Where the OUT sensor reports already the run ends at once,
with the wait timer started (log entry 13). That the NOTICE JOURNAL which the reservation may cause is queued before
REPLY ACCEPTED is the model's choice (log entry 23). -/
def Obligations.IntakeIsAdmittedToReceive : Prop :=
  ∀ (h : Sender) (max : Byte) (q : List Instr) (l : Lane), l.fromAttending h = true →
    max ≠ 0#8 → l.sup.service = .opened → l.lockdown.state = .clear → l.payout = none → l.intake = none →
    l.latchedFault .drawerOut = false → l.latchedFault .drawerIn = false → l.drawer.free = true →
    l.transport.stacker.kind = .empty → 100 ≤ l.cass.bin.capacity - l.cass.bin.count →
    l.canReserve 3 = true →
    let admitted : Lane :=
      { (l.reserving (l.journal.reserved + 3)).sending [replyTo h 7 .accepted] with
        intake := some
          { tag := h.tag, console := h.source, maximum := min 40 max.toNat, state := .receiving
            returned := 0, suspect := 0, uncollected := 0, trayLeft := false, presentDeferred := false
            presentMade := false, timer := .stopped, escrow := [], plan := []
            keptNotes := Four.replicate 0, keptValue := Four.replicate 0, keptCount := 0, keptTotal := 0
            givebackNotes := 0, cause := .request, jammedFrom := none, slots := 3 }
        drivers := (l.startRun .extend).drivers
        drawer := { (l.startRun .extend).drawer with
          owner := some ⟨.intake, h.tag⟩, lastOwnerTag := some h.tag, waiting := false
          receiving := true } }
    (l.drawer.atEnd ≠ some .out → exec (.intake h max) ⟨q, l⟩ = .next ⟨q, admitted⟩)
    ∧ (l.drawer.atEnd = some .out → exec (.intake h max) ⟨q, l⟩ = .next ⟨q, { admitted with
        drivers := ((l.startRun .extend).command .drawerOut false).drivers
        drawer := { admitted.drawer with
          position := .out, movement := none, travel := none
          wait := some (l.clock + l.settings.intakeWait * 1000)
          placementFilter := if l.drawer.tray then some (l.clock + 2000) else none } }⟩)

/-- Feeding: a note the list knows goes to the escrow, an unknown one to the stacker as a return, a suspect one to the
bin, whose change of state is told. A suspect note that the bin refuses stops the intake: CAPTURE SUSPECT of those the
bin took, if any, INTAKE_END JAMMED, the drawer released and the lane closed with a purge fault. The feeder pauses at
the intake's maximum and at 40 returns with notes left in the tray. Feeding ends at an exhausted tray and at a pause.
Its suspect notes, if any, are recorded in CAPTURE SUSPECT under a slot of the reservation. With returns, or with
notes left in the tray, the intake is RETURNING and the returns are presented, at once where the drawer reports OUT
already; while the drawer is JAMMED, one of its drivers has a latched fault or the lane is not CLEAR, the present is
deferred. Otherwise the drawer is released and the intake is HELD with its escrow timer, or over with an empty escrow.
The model's choices: a report taken while the feeder is paused ends the feeding (log entry 4); NOTICE INTAKE_END is
queued before the NOTICE JOURNAL of the slots that an empty escrow returns (log entry 23). -/
def Obligations.FeederSendsEachNoteItsWay : Prop :=
  ∀ (i : Intake) (q : List Instr) (l : Lane), l.intake = some i → i.state = .feeding → l.settled = true →
    let paused := i.maximum ≤ i.escrow.length ∨ 40 ≤ l.transport.stacker.notes
    let fedOut := fun (ends : Host.Outcome State Fault Refusal) (left : Bool) (contents : Contents) =>
      let fed := { i with trayLeft := left, slots := if i.suspect = 0 then i.slots else i.slots - 1 }
      let ended := { l with
        drawer := { l.drawer with contents := contents }
        journal := { l.journal with queue := l.journal.queue ++
          (if i.suspect = 0 then []
            else [⟨.capture .suspect i.suspect, l.wallSeconds, true⟩] : List QueuedRecord) } }
      let back := l.transport.stacker.notes ≠ 0 ∨ left = true
      let barred := l.drawer.position = .jammed ∨ (l.driver .drawerOut).latched.isEmpty = false
        ∨ (l.driver .drawerIn).latched.isEmpty = false ∨ l.lockdown.state ≠ .clear
      let presents := ({ ended with
        intake := some { fed with state := .returning, presentDeferred := false, presentMade := true }
        transport := { l.transport with stacker := ⟨.empty, 0, 0⟩ }
        drawer := { l.drawer with
          presented := l.transport.stacker.notes
          contents := if l.transport.stacker.kind = BundleKind.cash then .cash else .returned } } : Lane).startRun .extend
      (back → barred →
        ends = .next ⟨q, { ended with intake := some { fed with state := .returning, presentDeferred := true } }⟩)
      ∧ (back → ¬barred → l.drawer.atEnd ≠ some .out → ends = .next ⟨q, presents⟩)
      ∧ (back → ¬barred → l.drawer.atEnd = some .out → l.payout = none → l.drawer.receiving = false →
        ∃ m, ends = .next ⟨q, m⟩ ∧ m.intake = presents.intake ∧ m.transport = presents.transport
          ∧ m.drawer.contents = presents.drawer.contents ∧ m.drawer.position = .out ∧ m.drawer.movement = none
          ∧ m.drawer.take = some (l.clock + l.settings.takeTimeout * 1000))
      ∧ (¬back → ∀ t, l.drawer.owner = some ⟨.intake, t⟩ → ends = .next ⟨q,
          ({ ended with drawer := { ended.drawer with owner := none, receiving := false } } : Lane).depositOver fed⟩)
    let returned := { l with
      intake := some { i with returned := i.returned + 1 }
      transport := { l.transport with stacker :=
        { kind := .returned, notes := l.transport.stacker.notes + 1, value := l.transport.stacker.value } } }
    (¬paused →
      (∀ k fit, l.cass.denominations.get k ≠ none →
        exec (.noteFed (.note k fit)) ⟨q, l⟩ = .next ⟨q, { l with
          intake := some { i with escrow := i.escrow ++ [⟨k, fit⟩] } }⟩)
      ∧ (∀ k fit, l.cass.denominations.get k = none →
        exec (.noteFed (.note k fit)) ⟨q, l⟩ = .next ⟨q, returned⟩)
      ∧ exec (.noteFed .unknown) ⟨q, l⟩ = .next ⟨q, returned⟩
      ∧ (l.binRoom = true → exec (.noteFed .suspect) ⟨q, l⟩
        = .next ⟨q, { l.binned with intake := some { i with suspect := i.suspect + 1 } }⟩)
      ∧ (l.binRoom = false → exec (.noteFed .suspect) ⟨q, l⟩
        = .next ⟨q, (l.intakeStopped i (captured .suspect i.suspect)
            (.intakeEnd .jammed i.counts (l.escrowValue i) i.returned i.suspect i.uncollected
              i.trayLeft)).closedFor { l.sup.causes with purgeModule := true }⟩))
    ∧ fedOut (exec .feederTrayExhausted ⟨q, l⟩) i.trayLeft .empty
    ∧ ∀ r, paused → fedOut (exec (.noteFed r) ⟨q, l⟩) true l.drawer.contents

/-- KEEP needs the attending console, the HELD intake its tag names, a journal slot and a routing plan, tested
in that order; it stops the escrow timer, and each note stacked then leaves the escrow for the position the plan
gives it. The position's count rises by one, a DEPOSIT cassette's value by the note's, and a derived state follows the
new count while a held one stays; a change of it is told to both consoles. With the last note the KEPT record joins,
NOTICE ESCROW_END KEPT tells the notes kept and their value, and the intake ends with its unused slots returned. The
model's choice (log entry 23) are the orders of frames of one class: the NOTICE JOURNAL which KEEP's own reservation
may cause before REPLY ACCEPTED, and at the last note CASSETTE_CHANGE, then ESCROW_END KEPT, then the NOTICE JOURNAL
which the returned slots may cause.

The routing plan places the escrow notes in their order against planned counts, which start at the counts and rise
with each note placed: a FIT note goes to the RECYCLE position of its value, OK, LOW or EMPTY and below its
capacity, with the smallest planned count, the lower on equal ones; any other, and a FIT one without such a
position, to the lowest DEPOSIT position that is OK or EMPTY and below its capacity. There is a plan where every
note has a place and no more than two DEPOSIT positions are used. -/
def Obligations.KeepStacksTheEscrowByItsPlan : Prop :=
  (∀ (i : Intake) (plan : List Position) (l : Lane),
    let t := l.cass.entry
    let planned := fun (earlier : List Position) (p : Position) =>
      (t.get p).count + (earlier.filter (· == p)).length
    let takesFit := fun (earlier : List Position) (value : Nat) (p : Position) =>
      (t.get p).mode = .recycle ∧ (t.get p).denomination = some value
      ∧ ((t.get p).state = .ok ∨ (t.get p).state = .low ∨ (t.get p).state = .empty)
      ∧ planned earlier p < (t.get p).capacity
    let takesAny := fun (earlier : List Position) (p : Position) =>
      (t.get p).mode = .deposit ∧ ((t.get p).state = .ok ∨ (t.get p).state = .empty)
      ∧ planned earlier p < (t.get p).capacity
    l.routingPlan i = some plan ↔
      plan.length = i.escrow.length
      ∧ (∀ k n p, i.escrow[k]? = some n → plan[k]? = some p →
          let earlier := plan.take k
          let value := (l.cass.denominations.get n.index).getD 0
          (n.fit = true ∧ takesFit earlier value p
            ∧ ∀ x, takesFit earlier value x → planned earlier p < planned earlier x
                ∨ (planned earlier p = planned earlier x ∧ p ≤ x))
          ∨ ((n.fit = false ∨ ∀ x, ¬takesFit earlier value x) ∧ takesAny earlier p
            ∧ ∀ x, takesAny earlier x → p ≤ x))
      ∧ (positions.filter (fun x => (t.get x).mode == .deposit && plan.contains x)).length ≤ 2)
  ∧ (∀ (h : Sender) (q : List Instr) (l : Lane), l.takes h = true → l.settings.attending ≠ some h.source →
    exec (.keep h) ⟨q, l⟩ = .next ⟨q, l.sending [replyTo h 8 .notPermitted]⟩)
  ∧ (∀ (h : Sender) (q : List Instr) (l : Lane), l.fromAttending h = true →
    ((∀ i, l.intake = some i → i.tag = h.tag → i.state ≠ .held) →
      exec (.keep h) ⟨q, l⟩ = .next ⟨q, l.sending [replyTo h 8 .state]⟩)
    ∧ ∀ i, l.intake = some i → i.tag = h.tag → i.state = .held →
      (i.slots = 0 → l.canReserve 1 = false →
        exec (.keep h) ⟨q, l⟩ = .next ⟨q, l.sending [replyTo h 8 .journal]⟩)
      ∧ (i.slots ≠ 0 ∨ l.canReserve 1 = true → l.routingPlan i = none →
        exec (.keep h) ⟨q, l⟩ = .next ⟨q, l.sending [replyTo h 8 .unavailable]⟩)
      ∧ (∀ plan, i.slots ≠ 0 ∨ l.canReserve 1 = true → l.routingPlan i = some plan →
        exec (.keep h) ⟨q, l⟩ = .next ⟨q,
          { (if i.slots = 0 then l.reserving (l.journal.reserved + 1) else l).sending
              [replyTo h 8 .accepted] with
            intake := some { i with
              state := .keeping, timer := .stopped, plan := plan, slots := max 1 i.slots } }⟩))
  ∧ ∀ (i : Intake) (n : EscrowNote) (notes : List EscrowNote) (p : Position) (plan : List Position)
      (q : List Instr) (l : Lane),
    l.intake = some i → i.state = .keeping → i.escrow = n :: notes → i.plan = p :: plan →
    let c := l.cass.entry.get p
    let value := (l.cass.denominations.get n.index).getD 0
    let added := i.keptNotes.set p (i.keptNotes.get p + 1)
    let values := if c.mode = .deposit then i.keptValue.set p (i.keptValue.get p + value) else i.keptValue
    let depositValue := fun k =>
      match (positions.filter (fun x => 0 < added.get x && (l.cass.entry.get x).mode == .deposit))[k]? with
      | none => 0
      | some x => values.get x
    let state : CassState :=
      if c.state = .fault ∨ c.state = .suspect ∨ c.state = .out ∨ c.state = .unused then c.state
      else if c.mode = CassMode.unused then .unused
      else if c.count + 1 = c.capacity then .full
      else if c.mode ≠ CassMode.deposit ∧ c.count + 1 ≤ c.lowMark then .low
      else .ok
    let change : List Outgoing := if state = c.state then []
      else l.toBoth (.cassetteChange (some p) (.inl state) c.cause (c.count + 1))
    let stacked : Lane := { l with cass := { l.cass with
      entry := l.cass.entry.set p { c with
        count := c.count + 1, state := state
        value := if c.mode = .deposit then some (c.value.getD 0 + value) else c.value } } }
    (notes ≠ [] → exec .escrowNoteStacked ⟨q, l⟩ = .next ⟨q, { stacked.sending change with
        intake := some { i with
          escrow := notes, plan := plan, keptNotes := added, keptValue := values
          keptCount := i.keptCount + 1, keptTotal := i.keptTotal + value } }⟩)
    ∧ (notes = [] → exec .escrowNoteStacked ⟨q, l⟩ = .next ⟨q,
        ({ stacked.sending (change ++ [⟨.notice (.escrowEnd .kept none (i.keptCount + 1)
              (i.keptTotal + value) 0 0 0), i.console, i.tag⟩]) with
            intake := none
            journal := { l.journal with queue := l.journal.queue ++
              [{ record := .kept added (depositValue 0) (depositValue 1)
                 seconds := l.wallSeconds, reserved := true }] } } : Lane).returning (i.slots - 1)⟩)

/-- A giveback, by request or at the escrow timer's expiry, needs a CLEAR lane, a free drawer without faults, an
empty stacker and a journal slot; refused at the expiry it starts the timer afresh. Each note moved goes to the
stacker as a return, and the last asks for the drawer; a present that is refused, for the lockdown, a fault, a jam or
a drawer in use, is deferred. GIVEBACK without a HELD intake of its tag is answered STATE. That an expiry with the
timer stopped or suspended changes nothing is the model's choice (log entry 2), as are that a returned note adds no
value to the bundle (log entry 13), that a drawer in a re-drive is not free (log entry 13) and that REPLY ACCEPTED is
queued before the NOTICE JOURNAL that its reservation may cause (log entry 23). -/
def Obligations.GivebackReturnsTheEscrow : Prop :=
  (∀ (h : Sender) (q : List Instr) (l : Lane), l.fromAttending h = true →
    (∀ i, l.intake = some i → i.tag = h.tag → i.state ≠ .held) →
    exec (.giveback h) ⟨q, l⟩ = .next ⟨q, l.sending [replyTo h 9 .state]⟩)
  ∧ (∀ (i : Intake) (q : List Instr) (l : Lane), l.intake = some i → i.state = .held →
    let tests : List (Bool × ReplyCode) :=
      [(l.lockdown.state != .clear, .locked),
       (l.drawer.position == .jammed || l.latchedFault .drawerOut || l.latchedFault .drawerIn, .unavailable),
       (!(l.drawer.owner == none && l.drawer.position == .home && l.drawer.contents == .empty
          && l.drawer.movement == none && l.drawer.travel == none) || l.transport.stacker.kind != .empty, .busy),
       (i.slots == 0 && !l.canReserve 1, .journal)]
    let begun := fun (base : Lane) (cause : GivebackCause) =>
      { (if i.slots = 0 then base.reserving (base.journal.reserved + 1) else base) with
        intake := some { i with
          state := .givingBack, timer := .stopped, cause := cause, givebackNotes := i.escrow.length
          presentMade := false, slots := max 1 i.slots } }
    (∀ h code, l.fromAttending h = true → i.tag = h.tag → firstFailing tests = some code →
        exec (.giveback h) ⟨q, l⟩ = .next ⟨q, l.sending [replyTo h 9 code]⟩)
    ∧ (∀ h, l.fromAttending h = true → i.tag = h.tag → firstFailing tests = none →
        exec (.giveback h) ⟨q, l⟩ = .next ⟨q, begun (l.sending [replyTo h 9 .accepted]) .request⟩)
    ∧ (∀ t, i.timer = .running t →
        (firstFailing tests = none → exec .escrowTimerExpiry ⟨q, l⟩ = .next ⟨q, begun l .timeout⟩)
        ∧ (∀ code, firstFailing tests = some code → l.lockdown.state = .clear →
            exec .escrowTimerExpiry ⟨q, l⟩ = .next ⟨q, { l with
              intake := some { i with timer := .running (l.clock + l.settings.escrowTimeout * 1000) } }⟩))
    ∧ ((∀ t, i.timer ≠ .running t) → exec .escrowTimerExpiry ⟨q, l⟩ = .next ⟨q, l⟩))
  ∧ ∀ (i : Intake) (n : EscrowNote) (notes : List EscrowNote) (q : List Instr) (l : Lane),
    l.intake = some i → i.state = .givingBack → i.escrow = n :: notes → l.settled = true →
    let b : Bundle := { kind := .returned, notes := l.transport.stacker.notes + 1
                        value := l.transport.stacker.value }
    (notes ≠ [] → exec .givebackNoteMoved ⟨q, l⟩ = .next ⟨q, { l with
        intake := some { i with escrow := notes }, transport := { l.transport with stacker := b } }⟩)
    ∧ (notes = [] → l.drawer.free = true → l.latchedFault .drawerOut = false →
        l.latchedFault .drawerIn = false → l.lockdown.state = .clear → l.drawer.atEnd ≠ some .out →
        exec .givebackNoteMoved ⟨q, l⟩ = .next ⟨q, { l with
          intake := some { i with escrow := [], presentDeferred := false, presentMade := true }
          transport := { l.transport with stacker := Bundle.empty }
          drivers := (l.startRun .extend).drivers
          drawer := { (l.startRun .extend).drawer with
            owner := some ⟨.giveback, i.tag⟩, lastOwnerTag := some i.tag, waiting := false
            presented := b.notes, contents := .returned } }⟩)
    ∧ (notes = [] → l.lockdown.state ≠ .clear ∨ l.latchedFault .drawerOut = true
          ∨ l.latchedFault .drawerIn = true ∨ l.drawer.free = false →
        exec .givebackNoteMoved ⟨q, l⟩ = .next ⟨q, { l with
          intake := some { i with escrow := [], presentDeferred := true }
          transport := { l.transport with stacker := b } }⟩)

/-! ### Envelopes and the drop safe -/

/-- A SLOT of the attending console is tested in the order of R99 and a refused one changes nothing but the
answer; one that passes is STAGED under a reservation of one slot with its PLACE CLAIM queued. At the readback
of that claim an abandoned record gives its place back; otherwise a counted UNKNOWN entry withholds the test, and
own places plus one plus the counted places of every peer are held against S_eff: the path is OPEN with the gate
driven, the slot timer started and, where the entry sensor reports an envelope already, the entry filter too; or the
place is released and the SLOT answered. That the NOTICE JOURNAL which the returned slot may cause is queued before
REPLY SAFE_FULL or STATE is the model's choice (log entry 23). -/
def Obligations.SlotIsTestedAndItsPlaceDecided : Prop :=
  (∀ (h : Sender) (q : List Instr) (l : Lane), l.fromAttending h = true →
    let tests : List (Bool × ReplyCode) :=
      [(l.sup.service != .opened, .state),
       (l.lockdown.state != .clear, .locked),
       (l.bus.mute != .no || l.ledgers.isolated, .line),
       (l.envelope.path == .fault, .unavailable),
       (l.envelope.path != .idle, .busy),
       (l.envelope.service.isSome, .state),
       (eightNumbers.any (fun n => (l.ledgers.peer.get n).state == .unknown), .state),
       (!l.canReserve 1, .journal)]
    (∀ code, firstFailing tests = some code →
      exec (.slot h) ⟨q, l⟩ = .next ⟨q, l.sending [replyTo h 10 code]⟩)
    ∧ (firstFailing tests = none → l.bus.queue.length < 16 →
      exec (.slot h) ⟨q, l⟩ = .next ⟨q,
        { (l.reserving (l.journal.reserved + 1)).sending [toEvery (.claim .place 1) h.tag] with
          envelope := { l.envelope with
            path := .staged, slotTimer := none, entryFilter := none, dropTimer := none
            record := some
              { tag := h.tag, console := h.source, abandoned := false, faultAtEnd := false
                serial := none } } }⟩))
  ∧ ∀ (f : TxFrame) (n : Nat) (r : EnvelopeRecord) (q : List Instr) (l : Lane),
    l.onLine? = some f → f.body = .claim .place n → l.envelope.record = some r →
    let release := toEvery (.release .place 1) r.tag
    let unknown := ∃ n, (l.ledgers.peer.get n).state = .unknown
    let counted := fun (e : Peer) => match e.state with
      | .fresh | .stale => e.places
      | .unknown | .silent | .absent | .self => 0
    let admitted := l.ledgers.places + 1 + (eightNumbers.map (fun n => counted (l.ledgers.peer.get n))).sum
      ≤ l.safeEff
    let refused := fun code =>
      (({ l.readBack.sending [release] with
          envelope := { l.envelope with record := none, path := .idle } } : Lane).returning 1).sending
        [replyTo ⟨r.console, r.tag⟩ 10 code]
    (r.abandoned = true →
      exec .placeClaimReadback ⟨q, l⟩ = .next ⟨q, { l.readBack.sending [release] with
        envelope := { l.envelope with record := none, path := if r.faultAtEnd then .fault else .idle } }⟩)
    ∧ (r.abandoned = false → unknown →
      exec .placeClaimReadback ⟨q, l⟩ = .next ⟨q, refused .state⟩)
    ∧ (r.abandoned = false → ¬unknown → ¬admitted →
      exec .placeClaimReadback ⟨q, l⟩ = .next ⟨q, refused .safeFull⟩)
    ∧ (r.abandoned = false → ¬unknown → admitted →
      exec .placeClaimReadback ⟨q, l⟩ = .next ⟨q,
        { l.readBack.sending [replyTo ⟨r.console, r.tag⟩ 10 .accepted] with
          ledgers := { l.ledgers with places := l.ledgers.places + 1 }
          drivers := (l.command .envGate true).drivers
          envelope := { l.envelope with
            path := .opened, slotTimer := some (l.clock + l.settings.slotTimeout * 1000)
            entryFilter := if l.envelope.entry = true then some (l.clock + 300) else none } }⟩)

/-- The envelope at the gate: a report of the entry sensor on an OPEN path starts the 300 ms filter, a clearing
stops it, and whichever of the filter and the slot timer runs out first decides: the capture with the next
serial, the imprint and the 5 s drop timer, or the gate closed on no envelope with the place released. The
capture ends CONFIRMED at the drop sensor, or UNCONFIRMED at the timer with the path in FAULT; its record joins
under the reservation and the place stays held, and a latched driver fault sends the path to FAULT at its end.
Homing carries a found envelope to the drop under the next capture number, imprinted: its record is made, own
places rise by one, and the path is FAULT where the drop is not reported. IMPRINT on for the whole carriage is the
model's choice (log entry 13); so are that an expiry or a report in another phase changes nothing (log entry 2)
but what the model remembers of an envelope left in the mechanism, that a drop report in homing's step 3 or
4 alone carries the envelope, and that a path which is FAULT already stays so when the drop of a found envelope is
reported (log entry 6), and that the NOTICE JOURNAL which the slot of a closed gate may cause is
queued before NOTICE ENVELOPE_END (log entry 23). -/
def Obligations.EnvelopeIsCapturedOrTheGateCloses : Prop :=
  (∀ (reports : Bool) (q : List Instr) (l : Lane),
    exec (.entrySensorChange reports) ⟨q, l⟩ = .next ⟨q, { l with
      envelope := { l.envelope with
        entry := reports
        entryFilter :=
          if l.envelope.path = .opened then
            if reports then some (l.envelope.entryFilter.getD (l.clock + 300)) else none
          else l.envelope.entryFilter } }⟩)
  ∧ (∀ (q : List Instr) (l : Lane),
    (l.envelope.path ≠ .opened →
      exec .entryFilterExpiry ⟨q, l⟩ = .next ⟨q, l⟩ ∧ exec .slotTimerExpiry ⟨q, l⟩ = .next ⟨q, l⟩)
    ∧ (l.envelope.path ≠ .capturing → l.homesIn .escrow = false → l.homesIn .envelope = false →
      exec .dropSensorReport ⟨q, l⟩ = .next ⟨q, { l with envelope := { l.envelope with held := false } }⟩
      ∧ exec .dropTimerExpiry ⟨q, l⟩ = .next ⟨q, l⟩)
    ∧ (l.envelope.path ≠ .capturing → l.sup.service = .starting → l.sup.homing.running = true →
      l.sup.homing.envelope = none → l.sup.homing.step = .escrow ∨ l.sup.homing.step = .envelope →
      ∀ reported : Bool,
      let started := l.envelope.dropTimer.isSome = true
        ∧ ¬(l.sup.homing.step = .escrow ∧ l.envelope.held = true)
      let serial := if started then l.envelope.serial
        else if l.envelope.serial = 65535 then 1 else l.envelope.serial + 1
      ∃ m, exec (if reported then .dropSensorReport else .dropTimerExpiry) ⟨q, l⟩ = .next ⟨q, m⟩
        ∧ m = { l with
            sup := { l.sup with homing := { l.sup.homing with step := .envelope, envelope := some serial } }
            drivers := m.drivers
            envelope := { l.envelope with
              serial := serial, dropTimer := none, held := !reported
              path := if reported then l.envelope.path else .fault }
            ledgers := { l.ledgers with places := l.ledgers.places + 1 } }
        ∧ (m.driver .imprint).commanded = false
        ∧ (¬started → (m.driver .envGate).commanded = false))
    ∧ (l.envelope.path ≠ .capturing → l.homesIn .envelope = true → l.sup.homing.envelope.isSome = true →
      exec .dropSensorReport ⟨q, l⟩ = .next ⟨q, { l with envelope := { l.envelope with held := false } }⟩
      ∧ exec .dropTimerExpiry ⟨q, l⟩ = .next ⟨q, l⟩))
  ∧ ∀ (r : EnvelopeRecord) (q : List Instr) (l : Lane), l.envelope.record = some r →
    let serial := if l.envelope.serial = 65535 then 1 else l.envelope.serial + 1
    (l.envelope.path = .opened → l.envelope.entryFilter.isSome = true →
      exec .entryFilterExpiry ⟨q, l⟩ = .next ⟨q, { l with
        drivers := ((l.command .envGate false).command .imprint true).drivers
        envelope := { l.envelope with
          path := .capturing, record := some { r with serial := some serial }, serial := serial, held := true
          slotTimer := none, entryFilter := none, dropTimer := some (l.clock + 5000) } }⟩)
    ∧ (l.envelope.path = .opened → l.envelope.slotTimer.isSome = true →
      let closed : Lane := { l.sending [toEvery (.release .place 1) r.tag] with
        drivers := (l.command .envGate false).drivers
        ledgers := { l.ledgers with places := l.ledgers.places - 1 }
        envelope := { l.envelope with record := none, path := .idle, slotTimer := none, entryFilter := none } }
      exec .slotTimerExpiry ⟨q, l⟩ = .next ⟨q,
        (closed.returning 1).sending [⟨.notice (.envelopeEnd .noEnvelope none none), r.console, r.tag⟩]⟩)
    ∧ (∀ k, l.envelope.path = .capturing → r.serial = some k →
      let ended := fun outcome confirmed path =>
        { l.sending [⟨.notice (.envelopeEnd outcome none (some (l.sup.lane, k))), r.console, r.tag⟩] with
          drivers := (l.command .imprint false).drivers
          journal := { l.journal with queue := l.journal.queue ++
            [{ record := .envelope k confirmed, seconds := l.wallSeconds, reserved := true }] }
          envelope := { l.envelope with
            record := none, path := path, dropTimer := none, held := !confirmed } }
      exec .dropSensorReport ⟨q, l⟩
          = .next ⟨q, ended .captured true (if r.faultAtEnd then .fault else .idle)⟩
      ∧ exec .dropTimerExpiry ⟨q, l⟩ = .next ⟨q, ended .unconfirmed false .fault⟩)

/-- SAFE_OPEN and SAFE_CLOSE of the supervisor console are tested in the orders of R107 and R109, and a refused one
changes nothing but the answer. A SAFE_OPEN that passes makes the phase BEGINNING and queues BEGIN; the door alarm is
then no cause of the strobe, which goes off where ATTACK is absent and its minimum on timer is stopped. A SAFE_CLOSE
queues EMPTIED with the next epoch in DOOR_CLOSED and END_NO_EMPTY in BEGUN. Neither is answered before its frame's
end, but a frame that a full transmit queue drops on arrival is answered LINE, a SAFE_OPEN's with the phase NONE again
and, with the safe door ACTIVE, the alarm raised. The tags of the frames are the model's choice (log entry 22), as is
the NOTICE ALARM before that REPLY LINE (log entry 23). -/
def Obligations.SafeRequestsQueueTheirFrames : Prop :=
  ∀ (h : Sender) (q : List Instr) (l : Lane), l.fromSupervisor h = true →
    let openTests : List (Bool × ReplyCode) :=
      [(!l.settings.safeLane, .state),
       (l.sup.service != .closed && l.sup.service != .opened, .state),
       (l.envelope.phase != .noService, .busy),
       (l.lockdown.state != .clear, .locked),
       (l.bus.mute != .no, .line)]
    let closeTests : List (Bool × ReplyCode) :=
      [(!l.settings.safeLane, .state),
       (l.envelope.phase == .noService, .state),
       (l.envelope.phase == .beginning || l.envelope.phase == .doorOpen, .busy),
       (l.bus.queue.any TxFrame.endsService, .busy),
       (l.bus.mute != .no, .line)]
    let drops := fun (body : TxBody) => (txJoin l.bus.queue (TxFrame.fresh body everyStation h.tag)).2
    (∀ code, firstFailing openTests = some code →
      exec (.safeOpen h) ⟨q, l⟩ = .next ⟨q, l.sending [replyTo h 16 code]⟩)
    ∧ (l.bus.queue.length < 16 → ∀ body, drops body = false)
    ∧ (firstFailing openTests = none →
      let calm := if l.sup.causes.attack = true ∨ l.drivers.strobeMinOn.isSome = true then l.drivers
        else (l.command .strobe false).drivers
      (drops (.serviceBegin true) = false →
        exec (.safeOpen h) ⟨q, l⟩ = .next ⟨q, { l.sending [toEvery (.serviceBegin true) h.tag] with
          envelope := { l.envelope with phase := .beginning }
          drivers := calm }⟩)
      ∧ (drops (.serviceBegin true) = true →
        (l.openDoorLoop = none → exec (.safeOpen h) ⟨q, l⟩
          = .next ⟨q, { l.sending [replyTo h 16 .line] with drivers := calm }⟩)
        ∧ (∀ n, l.openDoorLoop = some n → ∃ m, exec (.safeOpen h) ⟨q, l⟩ = .next ⟨q, m⟩
          ∧ m = { l.sending (l.toBoth (.alarm n .safeDoor .active .door) ++ [replyTo h 16 .line]) with
              drivers := m.drivers }
          ∧ (m.driver .strobe).commanded = true
          ∧ m.drivers.strobeMinOn = some (l.clock + l.settings.strobeMinOn * 1000)
          ∧ ∀ d, d ≠ .strobe → m.driver d = l.driver d)))
    ∧ (∀ code, firstFailing closeTests = some code →
      exec (.safeClose h) ⟨q, l⟩ = .next ⟨q, l.sending [replyTo h 17 code]⟩)
    ∧ (firstFailing closeTests = none →
      let epoch := if l.envelope.epoch = 65535 then 1 else l.envelope.epoch + 1
      let ends : TxBody := if l.envelope.phase = .doorClosed then .emptied epoch else .serviceEnd true
      exec (.safeClose h) ⟨q, l⟩ = .next ⟨q, l.sending
        [if drops ends = true then replyTo h 17 .line else toEvery ends h.tag]⟩)

/-- The safe service at its own readbacks and at every lane that hears it: BEGIN sets the service flag to its sender,
END_NO_EMPTY clears a flag that holds its sender, and EMPTIED sets own places to 0, and every peer entry's where it
comes from a lane, takes the epoch, writes SAFE_EMPTIED and clears the flag. At the safe lane the phase follows and
the supervisor console is answered and told.

A BEGIN, heard or read back, cancels the envelope record that waits: in STAGED the CLAIM is withdrawn and the record
discarded, in CLAIMING the record is kept abandoned, and both give the reservation back and REPLY STATE to the SLOT;
one abandoned before is left as it is; a slot that is OPEN is closed on no envelope, its place and its reservation
given back, with NOTICE ENVELOPE_END CANCELLED. An END_NO_EMPTY or EMPTIED that a SAFE_CLOSE queued ends the service
at its readback, and with the safe door ACTIVE then the door's alarm is raised: NOTICE ALARM to both consoles and, in
a CLEAR lane, the strobe for its minimum on time.

The tags, and the epoch 0 in a notice that carries none, are the model's choices (log entries 21 and 22), as are that
a console's EMPTIED touches no peer entry (log entry 3) and the order of frames of one class: what the cancelled
record sends before REPLY ACCEPTED, the door's NOTICE ALARM before REPLY DONE (log entry 23). -/
def Obligations.SafeServiceReachesEveryLane : Prop :=
  let ended := fun (l : Lane) (from_ : Station) =>
    if l.envelope.service = some from_ then none else l.envelope.service
  let emptied := fun (l : Lane) (lane : Bool) (epoch : Nat) (phase : ServicePhase) =>
    { l with
      ledgers := { l.ledgers with
        places := 0
        peer := if lane then l.ledgers.peer.map (fun p => { p with places := 0 }) else l.ledgers.peer }
      envelope := { l.envelope with epoch := epoch, service := none, phase := phase }
      journal :=
        if l.journal.queue.length + l.heldSlots < 16 then
          { l.journal with queue := l.journal.queue ++
              [{ record := .safeEmptied epoch, seconds := l.wallSeconds, reserved := false }] }
        else { l.journal with lost := true } }
  let cancels := fun (x : Lane) (answers : Lane → Prop) =>
    (x.envelope.path ≠ .staged → x.envelope.path ≠ .claiming → x.envelope.path ≠ .opened → answers x)
    ∧ ∀ r, x.envelope.record = some r →
      (x.envelope.path = .staged ∨ x.envelope.path = .claiming → r.abandoned = true → answers x)
      ∧ (x.envelope.path = .staged → r.abandoned = false → answers
          ((({ x.abandonClaim .place with
            envelope := { x.envelope with record := none, path := .idle } } : Lane).returning 1).sending
            [replyTo ⟨r.console, r.tag⟩ 10 .state]))
      ∧ (x.envelope.path = .claiming → r.abandoned = false → answers
          ((({ x.abandonClaim .place with
            envelope := { x.envelope with
              record := some { r with abandoned := true, faultAtEnd := false } } } : Lane).returning 1).sending
            [replyTo ⟨r.console, r.tag⟩ 10 .state]))
      ∧ (x.envelope.path = .opened → answers
          ((({ x.sending [toEvery (.release .place 1) r.tag] with
            drivers := (x.command .envGate false).drivers
            ledgers := { x.ledgers with places := x.ledgers.places - 1 }
            envelope := { x.envelope with
              record := none, path := .idle, slotTimer := none, entryFilter := none } } : Lane).returning 1).sending
            [⟨.notice (.envelopeEnd .cancelled (some .safeService) none), r.console, r.tag⟩]))
  let doorChecked := fun (x : Lane) (out : List Outgoing) =>
    match x.openDoorLoop with
    | none => x.sending out
    | some n =>
      { x.sending (x.toBoth (.alarm n .safeDoor .active .door) ++ out) with
        drivers := if x.lockdown.state = .clear then
            { (x.command .strobe true).drivers with
              strobeMinOn := some (x.clock + x.settings.strobeMinOn * 1000) }
          else x.drivers }
  (∀ (source : Station) (q : List Instr) (l : Lane), source.val ≠ 15 → source ≠ laneStation l.sup.lane →
    let l' := l.stationHeard source
    cancels { l' with envelope := { l.envelope with service := some source } }
      (fun m => exec (.safeServiceBeginHeard source) ⟨q, l⟩ = .next ⟨q, m⟩)
    ∧ exec (.safeServiceEndHeard source) ⟨q, l⟩
        = .next ⟨q, { l' with envelope := { l.envelope with service := ended l source } }⟩
    ∧ ∀ epoch, exec (.emptiedHeard source epoch) ⟨q, l⟩
        = .next ⟨q, emptied l' (decide (source.val < 8)) epoch l.envelope.phase⟩)
  ∧ ∀ (f : TxFrame) (c : Station) (q : List Instr) (l : Lane),
    l.onLine? = some f → l.settings.supervisor = some c →
    let own := laneStation l.sup.lane
    let heard : Lane := { l.readBack with envelope := { l.envelope with service := some own } }
    (f.body = .serviceBegin true → cancels heard (fun m =>
      exec .safeBeginReadback ⟨q, l⟩ = .next ⟨q,
        { m.sending [replyTo ⟨c, f.tag⟩ 16 .accepted, ⟨.notice (.safe .begin 0), c, f.tag⟩] with
          envelope := { m.envelope with
            phase := if l.envelope.phase = .beginning then .begun else l.envelope.phase } }⟩))
    ∧ (f.body = .serviceBegin false → cancels heard (fun m =>
      exec .safeBeginReadback ⟨q, l⟩ = .next ⟨q, m⟩))
    ∧ (f.body = .serviceEnd true →
      exec .serviceEndReadback ⟨q, l⟩ = .next ⟨q, doorChecked
        { l.readBack with envelope := { l.envelope with service := ended l own, phase := .noService } }
        [replyTo ⟨c, f.tag⟩ 17 .done, ⟨.notice (.safe .aborted 0), c, f.tag⟩]⟩)
    ∧ (f.body = .serviceEnd false →
      exec .serviceEndReadback ⟨q, l⟩
        = .next ⟨q, { l.readBack with envelope := { l.envelope with service := ended l own } }⟩)
    ∧ (∀ epoch, f.body = .emptied epoch →
      exec .serviceEndReadback ⟨q, l⟩ = .next ⟨q, doorChecked (emptied l.readBack true epoch .noService)
          [replyTo ⟨c, f.tag⟩ 17 .done, ⟨.notice (.safe .emptied epoch), c, f.tag⟩]⟩)

/-! ### The custody journal -/

/-- JOURNAL is refused STATE while a scan runs and UNAVAILABLE while the journal is FAULT or ABSENT; otherwise the
REPLY is DONE with the used slot that the index names in logical order, as the cartridge reads there, or
BEYOND_END, and with the journal's state, free slots, spares used and highest sequence.

The indices follow the pages in logical order: from primary page 0 on, through each redirect to the spare it names
and from there on to the next primary page, to the first unused slot of an OPEN page or a FRESH page; in a page the
used slots in ascending order, but for a slot still being programmed. A slot's status is the first of these that
holds: CHECK_BAD in a page whose header is unreadable or whose page sequence does not follow that of the pages before
it; VOID where the slot reads all zeros; CHECK_BAD in a SEALED page whose seal check fails; GOOD where its check
matches; CHECK_BAD otherwise. The pages are those that the headers spell, each visited once.

Log entry 14 has what the model infers or chooses: that order, by which all zeros are CHECK_BAD in a page that fails
the sequence check and VOID in one that fails its seal check (DEDUCED), and that STATE is answered during the whole
TEST run, that a page that a redirect names is read from its own slot 1, and that FRESH is a header of all ones
alone. -/
def Obligations.JournalReadsTheIndexedSlot : Prop :=
  (∀ (h : Sender) (index : Nat) (q : List Instr) (l : Lane), l.takes h = true →
    let report := fun (status : ReadStatus) (slot : SlotBits) =>
      replyTo h 13 .done
        (.journal status l.journal.state l.journal.free l.journal.sparesUsed l.journal.highest slot)
    exec (.journal h index) ⟨q, l⟩ = .next ⟨q, l.sending
      [if l.sup.scanning = true ∨ l.sup.testRun ≠ none then replyTo h 13 .state
       else if l.journal.state = .fault ∨ l.journal.state = .absent then replyTo h 13 .unavailable
       else match l.usedEntries[index]? with
         | none => report .beyondEnd 0
         | some e => report e.status (if e.status = .good ∨ e.status = .checkBad then e.value else 0)]⟩)
  ∧ (∀ (l : Lane) (e : ScanEntry), e ∈ l.usedEntries →
    e.value = Memory.readSlot l.journal.cells e.page e.slot ∧ e.value ≠ BitVec.allOnes 128
    ∧ 1 ≤ e.slot ∧ e.slot ≤ 15
    ∧ (e.status = .void → e.value = 0)
    ∧ (e.status = .good → recordCheckOk e.page e.slot e.value = true))
  ∧ ∀ (l : Lane) (pages : List Nat) (e : OrderEnd), LogicalOrder l.journal.cells pages e →
    l.usedEntries.map (fun x => (x.page, x.slot))
      = (usedInOrder l.journal.cells pages).filter (fun x =>
          !(l.journal.writePage == some x.1 && decide (l.journal.nextSlot ≤ x.2)))
    ∧ ∀ x, x ∈ l.usedEntries → ∃ before after, pages = before ++ x.page :: after
      ∧ x.status = statusInOrder l.journal.cells before x.page x.slot

/-- The write of the record at the head of the queue: barred without a free slot for it, it is lost; otherwise it is
given the next sequence number, and its page is opened, retired at two voids, or its slot read. A slot that reads all
ones is programmed and read back, another voided; what reads as programmed is written, a RESTOCK's number reaching
its position; what left a bit at 1 is programmed again, up to four times, and anything else voided. The write then
goes on at the next slot, where the record is not barred.

A page is opened at the spare a redirect has reached or else at the next primary page, its header OPEN with the next
page sequence, and the write goes on in its slot 1; one that does not verify is programmed zeros and skipped, and the
next page of the order is opened. A second void retires the page: the lowest spare not used is opened, the header
RETIRED names it, and the write goes on in its slot 1; with none left the redirect is none, and the next page of the
order is opened. A RETIRED header that does not verify is programmed zeros, the last page sequence is again that of
the page before, and the next page of the order is opened. After slot 15 the 15 slots are read and the page is SEALED
with their check; a seal that does not verify makes the header RETIRED, redirect none. A read-back judges a header as
it does a record. A cartridge that shows other cells than it ideally holds is read as it shows.

The commands' split of a write into line operations, the order of a page past a redirect to a FRESH spare, and the
low 16 bits in the cells of a page sequence or sequence number past 65,535, are the model's choice (log entry 14), as
is that an answer with no operation under way changes nothing (log entry 2). -/
def Obligations.JournalWritesTheHeadOrVoidsTheSlot : Prop :=
  (∀ (r : QueuedRecord) (rest : List QueuedRecord) (page : Nat) (q : List Instr) (l : Lane),
    l.journal.queue = r :: rest →
    let j := l.journal
    let at_ := fun op => { l with journal := { j with op := some op } }
    (l.mayWrite = false → exec .journalWriteStart ⟨q, l⟩ = .next ⟨q, l⟩)
    ∧ (l.mayWrite = true →
      let barred := j.free = 0 ∨ (r.reserved = false ∧ j.free ≤ j.reserved)
      let started := fun op => { l with journal := { j with
        headSequence := some (j.headSequence.getD (j.highest + 1)), op := some op } }
      (barred → exec .journalWriteStart ⟨q, l⟩ = .next ⟨q, { l with
        journal := { j with queue := rest, headSequence := none, op := none, lost := true } }⟩)
      ∧ (¬barred → j.writePage = none → exec .journalWriteStart ⟨q, l⟩
          = .next ⟨q, started (.programOpen (j.orderSpare.getD j.nextPrimary) false 1)⟩)
      ∧ (¬barred → j.writePage = some page → j.voids < 2 →
          exec .journalWriteStart ⟨q, l⟩ = .next ⟨q, started .readSlot⟩)
      ∧ (¬barred → j.writePage = some page → 2 ≤ j.voids →
          (∀ p, 3968 ≤ p → p < 4096 → p ∉ j.spares → (∀ x, 3968 ≤ x → x < p → x ∈ j.spares) →
            exec .journalWriteStart ⟨q, l⟩ = .next ⟨q, started (.programOpen p true 1)⟩)
          ∧ ((∀ x, 3968 ≤ x → x < 4096 → x ∈ j.spares) →
            exec .journalWriteStart ⟨q, l⟩ = .next ⟨q, started (.programRetire none 1)⟩)))
    ∧ (j.writePage = some page →
      let shown := Memory.readSlot j.cells page j.nextSlot
      (j.op = some .readSlot → exec (.journalLineAnswer none) ⟨q, l⟩
        = .next ⟨q, at_ (if shown = BitVec.allOnes 128 then .programSlot 1 else .voidSlot)⟩)
      ∧ (∀ k, j.op = some (.programSlot k) → exec (.journalLineAnswer none) ⟨q, l⟩ = .next ⟨q, { l with
          journal := { j with
            op := some (.verifySlot k)
            cells := Memory.program j.cells page j.nextSlot
              (encodeRecord page j.nextSlot l.sup.lane (j.headSequence.getD 0) r.seconds r.record) } }⟩)
      ∧ (∀ k, j.op = some (.verifySlot k) → shown ≠ l.headBits →
          exec (.journalLineAnswer none) ⟨q, l⟩ = .next ⟨q, at_
            (if l.headBits &&& shown = l.headBits ∧ k < 4 then .programSlot (k + 1) else .voidSlot)⟩)
      ∧ (∀ k, j.op = some (.verifySlot k) → shown = l.headBits → j.voids < 2 → j.nextSlot ≤ 15 →
          ∃ m, exec (.journalLineAnswer none) ⟨q, l⟩ = .next ⟨q, m⟩
            ∧ m = { l with
                journal := { j with
                  queue := rest, headSequence := none, nextSlot := j.nextSlot + 1
                  op := if j.nextSlot = 15 then some (.sealRead 1) else none
                  highest := j.headSequence.getD 0, reserved := m.journal.reserved
                  state := m.journal.state }
                cass := { l.cass with entry := match r.record with
                  | .restock (some i) _ _ => l.cass.entry.set i
                      { l.cass.entry.get i with lastRestock := some (j.headSequence.getD 0) }
                  | _ => l.cass.entry }
                bus := { l.bus with queue := m.bus.queue } }
            ∧ m.journal.free = j.free - 1
            ∧ (j.reserved ≤ j.free → (r.reserved = true → 0 < j.reserved) →
                (r.reserved = false → j.reserved < j.free) →
                m.journal.reserved = if r.reserved then j.reserved - 1 else j.reserved))))
  ∧ ∀ (q : List Instr) (l : Lane),
    let j := l.journal
    let at_ := fun op => { l with journal := { j with op := some op } }
    let own := l.journal.writePage.getD 0
    let programs := fun (p : Nat) (pattern : SlotBits) (op : LineOp) =>
      exec (.journalLineAnswer none) ⟨q, l⟩ = .next ⟨q, { l with
        journal := { j with op := some op, cells := Memory.program j.cells p 0 pattern } }⟩
    let left := { j with writePage := none, nextSlot := 1, voids := 0, op := none }
    let settled := fun (x : Journal) => ({ l with journal := x } : Lane).reserving x.reserved
    let onward := fun (x : Lane) (op : LineOp) =>
      match x.journal.queue with
      | [] => ({ x with journal := { x.journal with op := none } } : Lane)
      | r :: rest =>
        let barred := x.journal.free = 0 ∨ (r.reserved = false ∧ x.journal.free ≤ x.journal.reserved)
        if j.headSequence = none then { x with journal := { x.journal with op := none } }
        else if barred then { x with
          journal := { x.journal with queue := rest, headSequence := none, op := none, lost := true } }
        else { x with journal := { x.journal with op := some op } }
    let opensNext := fun (x : Journal) => LineOp.programOpen (x.orderSpare.getD x.nextPrimary) false 1
    let passed := fun (p : Nat) => { j with
      spares := if 3968 ≤ p ∧ p < 4096 then j.spares ++ [p] else j.spares
      orderSpare := if 3968 ≤ p ∧ p < 4096 then none else j.orderSpare
      nextPrimary := if 3968 ≤ p ∧ p < 4096 then j.nextPrimary else p + 1 }
    let answers := fun (m : Lane) => exec (.journalLineAnswer none) ⟨q, l⟩ = .next ⟨q, m⟩
    (j.op = some .voidSlot → j.writePage.isSome = true →
      let x := settled { j with
        cells := Memory.program j.cells own j.nextSlot 0, nextSlot := j.nextSlot + 1, voids := j.voids + 1
        op := none }
      let goes := fun op => answers { x with journal := { x.journal with op := some op } }
      (1 ≤ j.voids →
        (∀ p, 3968 ≤ p → p < 4096 → p ∉ j.spares → (∀ y, 3968 ≤ y → y < p → y ∈ j.spares) →
          goes (.programOpen p true 1))
        ∧ ((∀ y, 3968 ≤ y → y < 4096 → y ∈ j.spares) → goes (.programRetire none 1)))
      ∧ (j.voids = 0 → 15 ≤ j.nextSlot → goes (.sealRead 1))
      ∧ (j.voids = 0 → j.nextSlot < 15 → answers (onward x .readSlot)))
    ∧ (j.op = none → ∀ seen, exec (.journalLineAnswer seen) ⟨q, l⟩ = .next ⟨q, l⟩)
    ∧ (∀ op v, j.op = some op → l.opPattern op = none →
        exec (.journalLineAnswer (some v)) ⟨q, l⟩ = exec (.journalLineAnswer none) ⟨q, { l with
          journal := { j with cells := Memory.program j.cells (j.target op).1 (j.target op).2 v } }⟩)
    ∧ (∀ op v, j.op = some op → l.opPattern op ≠ none →
        ∃ m, exec (.journalLineAnswer (some v)) ⟨q, l⟩ = .next ⟨q, m⟩
          ∧ m.journal.cells = Memory.program j.cells (j.target op).1 (j.target op).2 v)
    ∧ (∀ p r k, j.op = some (.programOpen p r k) →
        programs p (headerOpen (j.lastPageSequence + 1)) (.verifyOpen p r k))
    ∧ (∀ p r k, j.op = some (.verifyOpen p r k) →
        let shown := Memory.readSlot j.cells p 0
        let header := headerOpen (j.lastPageSequence + 1)
        (shown ≠ header → exec (.journalLineAnswer none) ⟨q, l⟩ = .next ⟨q, at_
          (if header &&& shown = header ∧ k < 4 then .programOpen p r (k + 1) else .skipPage p r)⟩)
        ∧ (shown = header → r = true → 3968 ≤ p → p < 4096 →
            exec (.journalLineAnswer none) ⟨q, l⟩ = .next ⟨q, { l with journal := { j with
              spares := j.spares ++ [p], orderSpare := none, op := some (.programRetire (some p) 1) } }⟩)
        ∧ (shown = header → r = false → answers (onward (settled { passed p with
            writePage := some p, nextSlot := 1, voids := 0
            lastPageSequence := j.lastPageSequence + 1, priorPageSequence := j.lastPageSequence }) .readSlot)))
    ∧ (∀ p r, j.op = some (.skipPage p r) →
        let x : Journal := { passed p with cells := Memory.program j.cells p 0 0, op := none }
        (r = false → j.writePage = none ∨ j.voids < 2 →
          answers (onward (settled x) (if j.writePage = none then opensNext x else .readSlot)))
        ∧ (r = true →
          let goes := fun op => answers { l with journal := { x with op := some op } }
          (∀ y, 3968 ≤ y → y < 4096 → y ∉ x.spares → (∀ z, 3968 ≤ z → z < y → z ∈ x.spares) →
            goes (.programOpen y true 1))
          ∧ ((∀ y, 3968 ≤ y → y < 4096 → y ∈ x.spares) → goes (.programRetire none 1))))
    ∧ (∀ s k, j.op = some (.programRetire s k) → programs own (headerRetired s) (.verifyRetire s k))
    ∧ (∀ s k, j.op = some (.verifyRetire s k) →
        let shown := Memory.readSlot j.cells own 0
        let header := headerOpen j.lastPageSequence &&& headerRetired s
        (shown ≠ header → exec (.journalLineAnswer none) ⟨q, l⟩ = .next ⟨q, at_
          (if header &&& shown = header ∧ k < 4 then .programRetire s (k + 1) else .dropRetired)⟩)
        ∧ (shown = header → ∀ p, s = some p → answers (onward (settled { j with
            writePage := some p, nextSlot := 1, voids := 0
            lastPageSequence := j.lastPageSequence + 1, priorPageSequence := j.lastPageSequence }) .readSlot))
        ∧ (shown = header → s = none → answers (onward (settled left) (opensNext j))))
    ∧ (j.op = some .dropRetired → answers (onward (settled { left with
        cells := Memory.program j.cells own 0 0, lastPageSequence := j.priorPageSequence }) (opensNext j)))
    ∧ (∀ s, j.op = some (.sealRead s) → exec (.journalLineAnswer none) ⟨q, l⟩
        = .next ⟨q, at_ (if s < 15 then .sealRead (s + 1) else .programSeal 1)⟩)
    ∧ (∀ k, j.op = some (.programSeal k) →
        programs own (headerSealed (sealCheck j.cells own)) (.verifySeal k))
    ∧ (∀ k, j.op = some (.verifySeal k) →
        let shown := Memory.readSlot j.cells own 0
        let header := headerOpen j.lastPageSequence &&& headerSealed (sealCheck j.cells own)
        (shown ≠ header → exec (.journalLineAnswer none) ⟨q, l⟩ = .next ⟨q, at_
          (if header &&& shown = header ∧ k < 4 then .programSeal (k + 1) else .unseal)⟩)
        ∧ (shown = header → answers (onward { l with journal := left } (opensNext j))))
    ∧ (j.op = some .unseal → answers (onward { l with journal := { left with
        cells := Memory.program j.cells own 0 (headerRetired none) } } (opensNext j)))

/-- An unanswered line operation makes the journal FAULT, and a removal of the cartridge makes it ABSENT: the write
in progress stops where it stands, its record at the head of the queue with the number it was given, and a
programming cut short clears some of its bits, a free value saying which (log entry 9). During a TEST either fails
step 5, an unanswered operation of an inserted cartridge too while the journal is ABSENT; that an operation of the
write in progress before step 5 does so is the model's choice (log entry 14). Broken off, the start-up scan goes on
to homing as a start without replay. An insertion leaves the journal ABSENT and brings the cartridge's own cells, or
those of the one removed. That an insertion with a cartridge present, and an unanswered operation in ABSENT outside
such a TEST, change nothing, and that one with no operation waiting, or in a start-up scan without a cartridge, makes
the journal FAULT, is the model's choice (log entry 14); that a removal with no cartridge changes nothing is log
entry 2. -/
def Obligations.JournalStopsWithItsCartridge : Prop :=
  ∀ (q : List Instr) (l : Lane),
    let j := l.journal
    let dead := j.state = .absent ∧ (j.present = false ∨ l.sup.testRun = none)
    let news := fun st => if j.state = st then [] else l.toBoth (.journal .fault j.free)
    let stops := fun (c : Instr) (st : JournalState) (present : Bool) =>
      ∃ m, exec c ⟨q, l⟩ = .next ⟨q, m⟩
        ∧ m = { l with
            sup := { l.sup with testFault := l.sup.testFault || l.sup.testRun.isSome }
            journal := { j with op := none, state := st, present := present, cells := m.journal.cells }
            bus := { l.bus with queue := queued l.bus.queue (news st) }
            free := m.free }
        ∧ (j.op = none → m.journal.cells = j.cells ∧ m.free = l.free)
        ∧ (∀ op, j.op = some op →
            (l.opPattern op = none → m.journal.cells = j.cells ∧ m.free = l.free)
            ∧ (∀ p, l.opPattern op = some p → m.free = l.free + 1
                ∧ m.journal.cells = Memory.program j.cells (j.target op).1 (j.target op).2
                    (p ||| Config.interruptedBits l.free)))
    (l.sup.scanning = false → dead → exec .journalLineTimeout ⟨q, l⟩ = .next ⟨q, l⟩)
    ∧ (l.sup.scanning = false → ¬dead → stops .journalLineTimeout .fault j.present)
    ∧ (j.present = false → exec .cartridgeRemoval ⟨q, l⟩ = .next ⟨q, l⟩)
    ∧ (l.sup.scanning = false → j.present = true → stops .cartridgeRemoval .absent false)
    ∧ (l.sup.scanning = true →
      (∃ m, exec .journalLineTimeout ⟨q, l⟩ = .next ⟨q, m⟩ ∧ m.journal.state = .fault
        ∧ m.journal.free = 0 ∧ m.sup.causes.journal = true ∧ m.sup.homing.running = true
        ∧ m.ledgers.places = 5000 ∧ m.cass.bin.count = 400)
      ∧ (j.present = true → ∃ m, exec .cartridgeRemoval ⟨q, l⟩ = .next ⟨q, m⟩
        ∧ m.journal.state = .absent ∧ m.journal.present = false ∧ m.journal.free = 0
        ∧ m.sup.causes.journal = true ∧ m.sup.homing.running = true))
    ∧ ∀ cells,
      (j.present = true → exec (.cartridgeInsertion cells) ⟨q, l⟩ = .next ⟨q, l⟩)
      ∧ (j.present = false → exec (.cartridgeInsertion cells) ⟨q, l⟩ = .next ⟨q, { l with
        journal := { j with
          present := true
          cells := match cells with | none => j.cells | some c => Memory.canonical c } }⟩)

/-! ### The note mix -/

/-- A first mix of 0, or of more than the lane cap, is RANGE. Otherwise every search answers a mix if any choice of
notes within its counts pays the amount exactly within its bundle limit, and NO_MIX if none does. The mix answered
is such a choice, of no more notes than any other; among choices of as many notes it takes the most of the largest
denomination, then of the next, and so on. Each denomination's number is split to the fullest position first, equal
counts in ascending position, and the picks stand in descending denomination and in that order. FEWEST searches the
counts of the eligible positions; SPREAD searches what lies above their low marks, and where no choice pays within
that, the FEWEST counts, with BELOW_MARK set. A remix is a FEWEST search without the excluded position and within
its own limit. -/
def Obligations.MixPaysExactlyWithFewestNotes : Prop :=
  ∀ (t : Four Cassette) (amount : Nat),
    let worth := fun (i : Position) => (t.get i).denomination.getD 0
    let count := fun (i : Position) =>
      let c := t.get i
      if (c.mode = .dispense ∨ c.mode = .recycle) ∧ (c.state = .ok ∨ c.state = .low ∨ c.state = .full)
      then c.count else 0
    let above := fun (i : Position) => count i - (t.get i).lowMark
    let total := fun (n : Four Nat) => (positions.map n.get).sum
    let inNotes := fun (n : Four Nat) (d : Nat) => ((positions.filter (worth · = d)).map n.get).sum
    let pays := fun (avail : Position → Nat) (limit : Nat) (n : Four Nat) =>
      (∀ i, n.get i ≤ avail i) ∧ (positions.map (fun i => n.get i * worth i)).sum = amount ∧ total n ≤ limit
    let fuller := fun (avail : Position → Nat) (i j : Position) =>
      avail j < avail i ∨ (avail i = avail j ∧ i < j)
    let chosen := fun (avail : Position → Nat) (limit : Nat) (m : Mix) =>
      let from_ : Four Nat := Four.ofFn (fun i => ((m.picks.filter (·.1 == i)).map (·.2)).sum)
      pays avail limit from_
      ∧ (∀ n, pays avail limit n → total from_ ≤ total n
          ∧ (total n = total from_ → ∀ d, (∀ d', d < d' → inNotes n d' = inNotes from_ d') →
              inNotes n d ≤ inNotes from_ d))
      ∧ (∀ i j, (t.get i).denomination = (t.get j).denomination → fuller avail i j → 0 < from_.get j →
          from_.get i = avail i)
      ∧ m.picks.Pairwise (fun x y => worth y.1 < worth x.1 ∨ (worth x.1 = worth y.1 ∧ fuller avail x.1 y.1))
      ∧ ∀ x ∈ m.picks, 0 < x.2
    let answers := fun (avail : Position → Nat) (limit : Nat) (below : Bool) (a : MixAnswer) =>
      (∀ n, pays avail limit n → ∃ m, a = .mix m ∧ m.belowMark = below ∧ chosen avail limit m)
      ∧ ((∀ n, ¬pays avail limit n) → a = .noMix)
    (∀ cap mode, amount = 0 ∨ cap < amount → firstMix t cap amount mode = .range)
    ∧ (∀ cap, 0 < amount → amount ≤ cap →
        answers count 40 false (firstMix t cap amount .fewest)
        ∧ (∀ n, pays above 40 n → answers above 40 false (firstMix t cap amount .spread))
        ∧ ((∀ n, ¬pays above 40 n) → answers count 40 true (firstMix t cap amount .spread)))
    ∧ ∀ limit excluded, 0 < amount →
        answers (fun i => if excluded = some i then 0 else count i) limit false
          (remix t amount limit excluded)

/-! ### Reports and their clear flags -/

/-- The condition set holds the fourteen conditions of R187 in their order, each set while its rule says so; that of
a STATUS has JOURNAL_LOST at bit 14 besides, and bit 15 is 0.

LOOPS, DRIVERS and ROLLCALL report what stands when they are taken; LOOPS and ROLLCALL clear POWER_LOST as their
reply is queued; the seconds of a loop's present class count from the reset before its first change (log entry 24).
ROLLCALL is answered by a lane with one of the conditions it names, and a set beyond the fourteen is
MALFORMED. The clear flag of LOOPS clears the latches, the hits and ATTACK, and ENCLOSURE when every ENCLOSURE loop
is NORMAL; that of DRIVERS takes from each latched set what is no longer live: an output that this lets on again is
switched on, the closing cause DRIVER follows the sets, and where nothing else bars a deferred present of returns or
of a giveback it is asked again and made, at once where the drawer reports OUT already. An OPEN lane whose sets ask
for the cause it does not hold, which no run reaches, is left out. -/
def Obligations.ReportsTellAndTheirFlagsClear : Prop :=
  (∀ l : Lane,
    let c := fun k => l.conditions.getLsbD k = true
    let cassette := fun i => l.cass.entry.get i
    let bin := l.cass.bin
    let peer := fun n => l.ledgers.peer.get n
    let countedPlaces := (eightNumbers.map (fun n =>
      if (peer n).state = .fresh ∨ (peer n).state = .stale then (peer n).places else 0)).sum
    (c 0 ↔ l.lockdown.state ≠ .clear)
    ∧ (c 1 ↔ ∃ i, ((cassette i).mode = .dispense ∨ (cassette i).mode = .recycle)
        ∧ ((cassette i).state = .low ∨ (cassette i).state = .empty))
    ∧ (c 2 ↔ ∃ i, (cassette i).state = .fault ∨ (cassette i).state = .suspect ∨ (cassette i).state = .out)
    ∧ (c 3 ↔ bin.capacity ≤ bin.count ∨ 9 * bin.capacity ≤ 10 * bin.count)
    ∧ (c 4 ↔ 9 * l.safeEff ≤ 10 * (l.ledgers.places + countedPlaces))
    ∧ (c 5 ↔ l.journal.state = .low ∨ l.journal.state = .full)
    ∧ (c 6 ↔ l.journal.state = .fault ∨ l.journal.state = .absent)
    ∧ (c 7 ↔ ∃ n, (l.loops.entry.get n).latch = true)
    ∧ (c 8 ↔ ∃ n, (l.loops.entry.get n).filtered = some .short ∨ (l.loops.entry.get n).filtered = some .cut)
    ∧ (c 9 ↔ ∃ d, (l.driver d).latched ≠ ⟨false, false, false, false, false⟩)
    ∧ (c 10 ↔ l.drawer.contents ≠ .empty ∨ l.drawer.position = .jammed)
    ∧ (c 11 ↔ ∃ i, l.intake = some i ∧ i.escrow ≠ [])
    ∧ (c 12 ↔ ∃ n, (peer n).state = .fresh
        ∧ ((peer n).service = some .closed ∨ (peer n).service = some .opened)
        ∧ ((∃ w ∈ (peer n).wall, w ≠ l.settings.wall) ∨ ∃ s ∈ (peer n).safe, s ≠ l.settings.safe))
    ∧ (c 13 ↔ l.sup.powerLost = true)
    ∧ l.conditions.toNat < 2 ^ 14
    ∧ (∀ k, k < 14 → l.statusConditions.getLsbD k = l.conditions.getLsbD k)
    ∧ l.statusConditions.getLsbD 14 = l.journal.lost ∧ l.statusConditions.getLsbD 15 = false)
  ∧ ∀ (h : Sender) (q : List Instr) (l : Lane), l.takes h = true → l.bus.queue.length < 16 →
    let told := { l.sup with powerLost := false }
    let loopsReply := replyTo h 14 .done (.loops
      (Eight.ofFn (fun n =>
        let e := l.loops.entry.get n
        let s := l.settings.loop.get n
        { role := s.role, supervised := s.supervised, filter := s.filter, level := e.level
          raw := classify s.supervised e.level, filtered := e.filtered, latch := e.latch
          seconds := min 65535 ((l.clock - e.since) / 1000) }))
      l.loops.hits.length l.sup.converterFault l.sup.powerLost)
    let driversReply := replyTo h 15 .done (.drivers
      (l.drivers.entry.map (fun e =>
        { commanded := e.commanded, output := e.output, diagnostics := e.diagnostics, live := e.live
          latched := e.latched }))
      l.drivers.hot)
    exec (.loops h) ⟨q, l⟩ = .next ⟨q, { l.sending [loopsReply] with sup := told }⟩
    ∧ exec (.drivers h) ⟨q, l⟩ = .next ⟨q, l.sending [driversReply]⟩
    ∧ (∀ c : BitVec 16,
        (2 ^ 14 ≤ c.toNat →
          exec (.rollcall h c) ⟨q, l⟩ = .next ⟨q, l.sending [replyTo h 22 .malformed]⟩)
        ∧ (c.toNat < 2 ^ 14 → l.conditions &&& c = 0 → exec (.rollcall h c) ⟨q, l⟩ = .next ⟨q, l⟩)
        ∧ (c.toNat < 2 ^ 14 → l.conditions &&& c ≠ 0 → exec (.rollcall h c) ⟨q, l⟩ = .next ⟨q,
            { l.sending [replyTo h 22 .done (.conditions l.conditions)] with sup := told }⟩))
    ∧ (l.settings.supervisor = some h.source →
        let calm := ∀ n, (l.settings.loop.get n).role = .enclosure →
          (l.loops.entry.get n).filtered = some .normal
        let doorOpen := (∃ n, (l.settings.loop.get n).role = .safeDoor
          ∧ (l.loops.entry.get n).filtered = some .active) ∧ l.envelope.phase = .noService
        ∃ m, exec (.loopsClear h) ⟨q, l⟩ = .next ⟨q, m⟩
          ∧ m = { l.sending [loopsReply] with
              sup := { told with causes := m.sup.causes }
              loops := { entry := l.loops.entry.map (fun e => { e with latch := false }), hits := [] }
              drivers := m.drivers }
          ∧ m.sup.causes = { l.sup.causes with attack := false, enclosure := m.sup.causes.enclosure }
          ∧ (calm → m.sup.causes.enclosure = false)
          ∧ (¬calm → m.sup.causes.enclosure = l.sup.causes.enclosure)
          ∧ (doorOpen ∨ l.drivers.strobeMinOn.isSome = true → m.drivers = l.drivers)
          ∧ (¬doorOpen → l.drivers.strobeMinOn = none → m.drivers = (l.command .strobe false).drivers))
    ∧ (l.settings.supervisor = some h.source → l.settled = true →
        let rest := fun (e : DriverEntry) => { e with latched := e.latched.inter e.live }
        let held := (rest (l.driver .shutter)).latched.isEmpty = false
          ∨ ∃ d, (rest (l.driver d)).latched.hot = true
        (l.sup.service = .opened → l.sup.causes.driver = true ∨ ¬held) →
        let asks := fun (i : Intake) => i.presentDeferred = true ∧ l.lockdown.state = .clear
          ∧ (rest (l.driver .drawerOut)).latched.isEmpty = true
          ∧ (rest (l.driver .drawerIn)).latched.isEmpty = true
          ∧ (i.state = .returning ∧ l.drawer.position ≠ .jammed ∨ i.state = .givingBack ∧ l.drawer.free = true)
        ∃ c m, exec (.driversClear h) ⟨q, l⟩ = .next ⟨q, m⟩
          ∧ c = { l.sending [driversReply] with
              sup := { l.sup with causes := { l.sup.causes with driver := c.sup.causes.driver } }
              drivers := { l.drivers with entry := c.drivers.entry } }
          ∧ (c.sup.causes.driver = true ↔ held)
          ∧ (∀ d,
            ((rest (l.driver d)).output = (l.driver d).output → c.driver d = rest (l.driver d))
            ∧ ((rest (l.driver d)).output ≠ (l.driver d).output →
                c.driver d = { rest (l.driver d) with
                  live := ⟨false, false, false, false, (l.driver d).live.hot⟩
                  blanking := some (l.clock + 10) }))
          ∧ ((∀ i, l.intake = some i → ¬asks i) → m = c)
          ∧ ∀ i, l.intake = some i → asks i →
            let presents := ({ c with
              intake := some { i with presentDeferred := false, presentMade := true }
              transport := { l.transport with stacker := ⟨.empty, 0, 0⟩ }
              drawer := { (if i.state = .givingBack then { l.drawer with
                    owner := some ⟨.giveback, i.tag⟩, lastOwnerTag := some i.tag, waiting := false }
                  else l.drawer) with
                presented := l.transport.stacker.notes
                contents := if l.transport.stacker.kind = BundleKind.cash then .cash else .returned } } : Lane).startRun
              .extend
            (l.drawer.atEnd ≠ some .out → m = presents)
            ∧ (l.drawer.atEnd = some .out → l.payout = none → l.drawer.receiving = false →
              m.intake = presents.intake ∧ m.transport = presents.transport ∧ m.sup = c.sup
              ∧ m.drawer.contents = presents.drawer.contents ∧ m.drawer.position = .out
              ∧ m.drawer.movement = none
              ∧ m.drawer.take = some (l.clock + l.settings.takeTimeout * 1000)))

/-! ### Alarm loops -/

/-- A measurement sets the level code alone, and the candidate timer follows a change of the raw class: afresh
toward a class other than the filtered one, stopped at that one; before SETUP_DONE there is no filtering. When
the timer expires the raw class becomes the filtered class; a first class of NORMAL does nothing else. Any other
change sets the latch, returns the time in class to 0, is told to the supervisor console and takes the action of the
loop's role; SHORT and OPEN are told to both consoles as LOOP_TROUBLE, whatever the role.

A VIBRATION loop's ACTIVE adds a hit; the hit that fills the list to its threshold raises ATTACK, which closes the
lane, lights the strobe afresh for its minimum on time and sends NOTICE ALARM. An ENCLOSURE loop that leaves NORMAL
sends NOTICE ALARM and closes the lane. A CASSETTE_DOOR loop's ACTIVE at an OPEN lane makes every used cassette that
is not OUT SUSPECT, each change told, and sends NOTICE ALARM; a position that a payout loses so halts its picks. A
SAFE_DOOR loop moves the service phase: ACTIVE opens the door of a service begun or closed, NORMAL closes an open one,
and no other change moves it. ACTIVE with no service sends NOTICE ALARM and lights the strobe; any other change puts
the strobe out when no cause of it is left and its minimum on time is over. In lockdown the strobe is not lit. A
hold-up is statement 56.

The model's choices: HIT_AGEING takes the oldest hit out, with no test of its time (log entry 13); the expiry of a
loop with no candidate changes nothing (log entry 2); the time in class counts from the reset until the first of these
changes (log entry 24); NOTICE LOOP_CHANGE, CASSETTE_CHANGE, ALARM and LOOP_TROUBLE join in the order written here
(log entry 23). -/
def Obligations.LoopFiltersAndTakesItsRoleAction : Prop :=
  (∀ code : Byte,
    classify true code = (if code.toNat ≤ 31 then .short else if code.toNat ≤ 111 then .normal
      else if code.toNat ≤ 191 then .active else .cut)
    ∧ classify false code = (if code.toNat ≤ 127 then .normal else .active))
  ∧ ∀ (n : LoopNo) (q : List Instr) (l : Lane),
    let e := l.loops.entry.get n
    let s := l.settings.loop.get n
    let raw := classify s.supervised e.level
    let entry := fun x => { l.loops with entry := l.loops.entry.set n x }
    (∀ code,
      let now := classify s.supervised code
      exec (.loopMeasurement n code) ⟨q, l⟩ = .next ⟨q, { l with loops := entry { e with
        level := code
        candidate :=
          if (l.sup.service ≠ .closed ∧ l.sup.service ≠ .opened) ∨ now = raw then e.candidate
          else if e.filtered = some now then none
          else some (l.clock + s.filter.ms) } }⟩)
    ∧ exec .hitAgeing ⟨q, l⟩ = .next ⟨q, { l with loops := { l.loops with hits := l.loops.hits.drop 1 } }⟩
    ∧ (l.settled = true →
      (e.candidate = none → exec (.loopFilterExpiry n) ⟨q, l⟩ = .next ⟨q, l⟩)
      ∧ (e.candidate.isSome = true → e.filtered.getD .normal = raw →
          exec (.loopFilterExpiry n) ⟨q, l⟩
            = .next ⟨q, { l with loops := entry { e with candidate := none, filtered := some raw } }⟩)
      ∧ (e.candidate.isSome = true → e.filtered.getD .normal ≠ raw →
          let leads := fun (m : Lane) => exec (.loopFilterExpiry n) ⟨q, l⟩ = .next ⟨q, m⟩
          let changed : Lane :=
            { l.sending (toConsole l.settings.supervisor 0
                (.loopChange n s.role (e.filtered.getD .normal) raw)) with
              loops := entry
                { e with candidate := none, filtered := some raw, latch := true, since := l.clock } }
          let trouble := if raw = .short ∨ raw = .cut then l.toBoth (.loopTrouble n s.role raw) else []
          let alarm := fun cause => l.toBoth (.alarm n s.role raw cause)
          let lit := fun (m : Lane) =>
            if l.lockdown.state = .clear then
              { m.command .strobe true with drivers := { (m.command .strobe true).drivers with
                strobeMinOn := some (l.clock + l.settings.strobeMinOn * 1000) } }
            else m
          (s.role = .spare ∨ (raw ≠ .active ∧ (s.role = .holdup ∨ s.role = .vibration ∨ s.role = .cassetteDoor)) →
            leads (changed.sending trouble))
          ∧ (s.role = .vibration → raw = .active →
            let hits := (if 8 ≤ l.loops.hits.length then l.loops.hits.drop 1 else l.loops.hits) ++ [l.clock]
            let hit : Lane := { changed with loops := { changed.loops with hits := hits } }
            (hits.length < l.settings.vibration ∨ l.sup.causes.attack = true → leads hit)
            ∧ (l.settings.vibration ≤ hits.length → l.sup.causes.attack = false →
              leads ((lit (hit.closedFor { l.sup.causes with attack := true })).sending (alarm .attack))))
          ∧ (s.role = .enclosure →
            (raw = .normal → leads changed)
            ∧ (raw ≠ .normal → leads (((changed.sending (alarm .enclosure)).closedFor
                { l.sup.causes with enclosure := true }).sending trouble)))
          ∧ (s.role = .cassetteDoor → raw = .active →
            (l.sup.service ≠ .opened → leads changed)
            ∧ (l.sup.service = .opened →
              (∀ p, l.payout = some p → l.transport.path ≠ [] ∨ p.stackedValue ≠ p.amount) →
              let kept := fun (c : Cassette) => c.mode = .unused ∨ c.state = .out
              let marks := positions.flatMap (fun i =>
                let c := l.cass.entry.get i
                if kept c ∨ c.state = .suspect then []
                else l.toBoth (.cassetteChange (some i) (.inl .suspect) c.cause c.count))
              let table := l.cass.entry.map (fun c => if kept c then c else { c with state := .suspect })
              leads ((({ changed.sending marks with
                cass := { l.cass with entry := table } } : Lane).positionLost).sending (alarm .cassetteDoor))))
          ∧ (s.role = .safeDoor →
            let phase := l.envelope.phase
            let next :=
              if raw = .active ∧ (phase = .beginning ∨ phase = .begun ∨ phase = .doorClosed) then .doorOpen
              else if raw = .normal ∧ phase = .doorOpen then .doorClosed
              else phase
            let moved : Lane := { changed with envelope := { l.envelope with phase := next } }
            (raw = .active → phase = .noService → leads (lit (moved.sending (alarm .door))))
            ∧ (raw ≠ .active ∨ phase ≠ .noService →
              let told := moved.sending trouble
              let open_ := ∃ k, (l.settings.loop.get k).role = .safeDoor
                ∧ (moved.loops.entry.get k).filtered = some .active
              leads (if (open_ ∧ next = .noService) ∨ l.sup.causes.attack = true
                  ∨ l.drivers.strobeMinOn.isSome = true then told
                else told.command .strobe false)))))

/-! ### Output drivers -/

/-- A condition of the driver stage enters the live and latched sets in the output state that takes it, once the
blanking has run out, and leaves the live set as it disappears. Each newly latched kind is told to both consoles, and
OVERLOAD switches the output off, which takes the conditions of the state it left out of the live set and starts the
blanking. A fault newly latched by ENV_GATE or IMPRINT acts on the envelope path: an IDLE path is FAULT, a STAGED or
CLAIMING record is cancelled, an OPEN slot ends CANCELLED, cause FAULT, a capture is marked. One of SHUTTER, or HOT in
any set, closes the lane. HOT enters every set, tells each driver and holds every output off; it then acts on the
envelope path and the lane in the same way. A normal report takes it from the live sets alone. The strobe's minimum on
time and the lamp's hold end by applying what is then asked.

The model's choices: the sets a NOTICE carries, one NOTICE for each kind newly latched, and the order of what a
latched fault does, at a hot report too (every driver's entry and its notice, then the envelope path, then the lane's
closing), are log entry 13; the order of the frames of one class that this makes, the NOTICE JOURNAL of a returned
slot before the REPLY or the NOTICE ENVELOPE_END among them, is log entry 23; that the strobe's and the lamp's
expiries, a blanking's and a second hot report change nothing where none is due is log entry 2. -/
def Obligations.DriverFaultsLatchAndAct : Prop :=
  ∀ (d : Driver) (q : List Instr) (l : Lane),
    let e := l.driver d
    let taken := fun (c : Condition) =>
      (e.output = false ∧ (c = .shortSupply ∨ (c = .openOff ∧ e.diagnostics = true)))
        ∨ (e.output = true ∧ (c = .openOn ∨ c = .overload))
    let switchedOff := fun (x : DriverEntry) =>
      { x with live := ⟨false, false, false, false, x.live.hot⟩, blanking := some (l.clock + 10) }
    let entered := fun (x : DriverEntry) =>
      let told := (List.replicate (x.latched.size - e.latched.size)
        (l.toBoth (.driverFault d x.latched x.live))).flatten
      let shows := if x.output = e.output then x else switchedOff x
      ({ l.sending told with
        drivers := { l.drivers with entry := l.drivers.entry.set d.index shows } } : Lane)
    let latching := fun (x : DriverEntry) =>
      if x.latched = e.latched then entered x
      else (if d = .envGate ∨ d = .imprint then (entered x).envelopeFaulted else entered x).driverCaused
    (∀ c, exec (.driverConditionChange d c false) ⟨q, l⟩
        = .next ⟨q, l.withDriver d { e with stage := e.stage.put c false, live := e.live.put c false }⟩)
    ∧ (∀ c, ¬(taken c ∧ e.blanking = none) → exec (.driverConditionChange d c true) ⟨q, l⟩
        = .next ⟨q, l.withDriver d { e with stage := e.stage.put c true }⟩)
    ∧ (∀ c, taken c → e.blanking = none → exec (.driverConditionChange d c true) ⟨q, l⟩
        = .next ⟨q, latching { e with
            stage := e.stage.put c true, live := e.live.put c true, latched := e.latched.put c true }⟩)
    ∧ (e.blanking = none → exec (.blankingExpiry d) ⟨q, l⟩ = .next ⟨q, l⟩)
    ∧ (e.blanking.isSome = true →
        let here : FaultSet :=
          if e.output then ⟨false, e.stage.openOn, e.stage.overload, false, false⟩
          else ⟨e.stage.openOff && e.diagnostics, false, false, e.stage.shortSupply, false⟩
        exec (.blankingExpiry d) ⟨q, l⟩ = .next ⟨q, latching { e with
          blanking := none, live := e.live.union here, latched := e.latched.union here }⟩)
    ∧ (l.drivers.hot = true → exec .tempHot ⟨q, l⟩ = .next ⟨q, l⟩)
    ∧ (l.drivers.hot = false →
        let hotEntry := fun (y : DriverEntry) =>
          { y with live := { y.live with hot := true }, latched := { y.latched with hot := true } }
        let heats := drivers.flatMap (fun x =>
          let y := l.driver x
          if y.latched.hot then [] else l.toBoth (.driverFault x (hotEntry y).latched (hotEntry y).live))
        let heated : Lane := { l.sending heats with drivers := { l.drivers with
          hot := true
          entry := l.drivers.entry.map (fun y => if y.output then switchedOff (hotEntry y) else hotEntry y) } }
        let cold := (l.driver .envGate).latched.hot = false ∨ (l.driver .imprint).latched.hot = false
        exec .tempHot ⟨q, l⟩
          = .next ⟨q, (if cold then heated.envelopeFaulted else heated).driverCaused⟩
        ∧ ((if cold then heated.envelopeFaulted else heated).driverCaused.driver d).output = false)
    ∧ exec .tempNormal ⟨q, l⟩ = .next ⟨q, { l with drivers := { l.drivers with
        hot := false
        entry := l.drivers.entry.map (fun x => { x with live := { x.live with hot := false } }) } }⟩
    ∧ (l.drivers.strobeMinOn = none → exec .strobeMinOnExpiry ⟨q, l⟩ = .next ⟨q, l⟩)
    ∧ (l.drivers.strobeMinOn.isSome = true → exec .strobeMinOnExpiry ⟨q, l⟩ = .next ⟨q, { l with
        drivers := { (if l.strobeCause then l else l.command .strobe false).drivers with
          strobeMinOn := none } }⟩)
    ∧ (l.drivers.lampHold = none → exec .lampHoldExpiry ⟨q, l⟩ = .next ⟨q, l⟩)
    ∧ (l.drivers.lampHold.isSome = true →
        let demand := decide (l.sup.service = .opened ∧ l.lockdown.state = .clear)
        exec .lampHoldExpiry ⟨q, l⟩ = .next ⟨q, { l with
          drivers :=
            if (l.driver .laneLamp).commanded = demand then { l.drivers with lampHold := none }
            else { (l.command .laneLamp demand).drivers with lampHold := some (l.clock + 1000) } }⟩)

/-! ### Lockdown -/

/-- A hold-up at this window drives the break, queues the LOCKDOWN frame, switches the silent relay on and writes its
record in every lockdown state, and leaves the lane LOCKED with its hold afresh; its loop is ACTIVE from now and
latched. A break, another lane's LOCKDOWN frame, or the readback of the own one locks a CLEAR lane, with its record,
and restarts the hold of any other. In STARTING the record is held; one that finds the write queue without room is
dropped, which marks JOURNAL_LOST; a FAILED lane takes neither break nor frame. Entry from CLEAR ends what the wall
has not decided, closes the shutter, darkens the strobe, and switches a lit lamp off at once or at its hold's end. It
sends a payout PICKING or BUNDLED to the purge bin; under the policy RETRACT it makes a recall pending in PRESENTING
and retracts a PRESENTED one, and under LEAVE it does neither; in RETRACTING, PURGING and JAMMED the payout goes on.
It retracts a drawer that waits for notes, suspends the escrow timer of a HELD intake and leaves the intake otherwise
as it was. An envelope STAGED or OPEN ends, one CLAIMING is abandoned, and one CAPTURING goes on. A payout or an
envelope ended undecided is answered REPLY LOCKED, a payout with nothing to purge has its PURGE record, behind the
LOCKDOWN record, and its notice PAYOUT_FAILED, and an OPEN slot its ENVELOPE_END, CANCELLED for LOCKED. The hold's
expiry makes the lane RELEASABLE.

The model's choices: tag 0 of the LOCKDOWN frame and the STATUS (log entry 22); a hold expiry with no hold running
changes nothing (log entry 2); a LOCKDOWN frame of the own number is the readback while an own one is on the line, and
a CLASH otherwise (log entry 3); the payout's frames join before the envelope's, and each NOTICE JOURNAL before the
REPLY or the ENVELOPE_END and after the PAYOUT_FAILED (log entry 23). -/
def Obligations.HoldUpsAndBreaksLockTheLane : Prop :=
  ∀ (q : List Instr) (l : Lane), l.settled = true →
    let hold := some (l.clock + l.settings.lockdownHold * 1000)
    let status := fun (m : Lane) =>
      if m.sup.service = .setup ∨ m.sup.service = .closed ∨ m.sup.service = .opened then
        some (l.clock + l.settings.announce * 1000) else l.ledgers.announce
    let offLine := l.bus.queue.map (fun f => { f with onLine := false })
    let purged : List QueuedRecord := match l.payout with
      | none => []
      | some p =>
        if (p.state = .picking ∨ p.state = .bundled) ∧ l.transport.path = [] ∧ l.transport.stacker.notes = 0
        then [{ record := .purge .locked p.drawn p.binned, seconds := l.wallSeconds, reserved := true }]
        else []
    let record := fun (o : Option LoopOrigin) (m : Lane) =>
      m.lockdown = { state := .locked, hold := hold
                     heldRecords := l.lockdown.heldRecords
                       ++ if l.sup.service = .starting then [.lockdown o] else [] }
      ∧ (l.lockdown.state = .clear →
          (l.payout = none ∧ l.intake = none) ∨ (l.drawer.position = .out → l.drawer.atEnd ≠ some .home) →
          m.journal.queue = (if l.sup.service ≠ .starting ∧ l.journal.queue.length + l.heldSlots < 16
            then l.journal.queue ++
              [{ record := .lockdown o, seconds := l.wallSeconds, reserved := false }]
            else l.journal.queue) ++ purged
          ∧ m.journal.lost = (l.journal.lost
              || decide (l.sup.service ≠ .starting ∧ 16 ≤ l.journal.queue.length + l.heldSlots)))
    let payoutEnds : Lane → Lane := fun x => match l.payout with
      | none => x
      | some p =>
        if p.state = .staged ∨ p.state = .claiming then
          (({ x.abandonClaim .cash with payout := none } : Lane).returning p.slots).sending
            [replyTo ⟨p.console, p.tag⟩ 5 .locked]
        else if (p.state = .picking ∨ p.state = .bundled) ∧ l.transport.path = []
            ∧ l.transport.stacker.notes = 0 then
          (x.sending [toEvery (.release .cash p.amount) p.tag,
            ⟨.notice (.payoutFailed .locked p.binned), p.console, p.tag⟩]).returning (p.slots - 1)
        else x
    let envelopeEnds : Lane → Lane := fun x => match l.envelope.record with
      | none => x
      | some r =>
        if (l.envelope.path = .staged ∨ l.envelope.path = .claiming) ∧ r.abandoned = false then
          ((x.abandonClaim .place).returning 1).sending [replyTo ⟨r.console, r.tag⟩ 10 .locked]
        else if l.envelope.path = .opened then
          ((x.sending [toEvery (.release .place 1) r.tag]).returning 1).sending
            [⟨.notice (.envelopeEnd .cancelled (some .locked) none), r.console, r.tag⟩]
        else x
    let entered := fun (m : Lane) (start : List TxFrame) =>
      (∀ p, m.payout = some p → p.state ≠ .staged ∧ p.state ≠ .claiming)
      ∧ (m.driver .shutter).commanded = false ∧ (m.driver .strobe).commanded = false
      ∧ m.drivers.strobeMinOn = none ∧ (l.envelope.record ≠ none → m.envelope.path ≠ .opened)
      ∧ m.settings = l.settings ∧ m.sup.service = l.sup.service
      ∧ let retracts := l.settings.policy = .retract
        let out := l.drawer.position = .out
        let shown := out ∧ (l.drawer.contents = .cash ∨ l.drawer.contents = .returned)
        ((out → l.drawer.atEnd ≠ some .home) →
          m.bus.queue = (envelopeEnds (payoutEnds { l with bus := { l.bus with queue := start } })).bus.queue
          ∧ (l.drivers.lampHold = none → (m.driver .laneLamp).commanded = false
            ∧ m.drivers.lampHold = (if (l.driver .laneLamp).commanded then some (l.clock + 1000) else none))
          ∧ (l.drivers.lampHold.isSome = true →
            m.driver .laneLamp = l.driver .laneLamp ∧ m.drivers.lampHold = l.drivers.lampHold)
          ∧ (∀ p, l.payout = some p →
            (p.state = .staged ∨ p.state = .claiming → m.payout = none)
            ∧ (p.state = .picking ∨ p.state = .bundled →
                if l.transport.path = [] ∧ l.transport.stacker.notes = 0
                then m.payout = none ∧ m.ledgers.cash = 0
                else m.payout = some { p with state := .purging, outcome := some .locked }
                  ∧ m.transport.halted = true ∧ m.transport.pickList = [])
            ∧ (p.state = .presenting → m.payout = some
                { p with recallPending := p.recallPending || decide retracts })
            ∧ (p.state = .presented → ¬(retracts ∧ shown) → m.payout = some p)
            ∧ (p.state = .presented → retracts → shown → m.payout = some { p with state := .retracting }
                ∧ m.drawer.movement = some .retract ∧ m.drawer.position = .retracting)
            ∧ (p.state = .retracting ∨ p.state = .purging ∨ p.state = .jammed → m.payout = some p))
          ∧ ∀ i, l.intake = some i →
            m.intake = some { i with timer := match i.state, i.timer with
              | .held, .running t => .suspended (t - l.clock)
              | _, x => x }
            ∧ (l.payout = none → i.state = .receiving → out → l.drawer.receiving = true →
                m.drawer.movement = some .retract ∧ m.drawer.position = .retracting)
            ∧ (l.payout = none → ¬(i.state = .receiving ∧ out ∧ l.drawer.receiving = true) →
                m.drawer = l.drawer))
      ∧ ∀ r, l.envelope.record = some r →
        (l.envelope.path = .staged → r.abandoned = false →
          m.envelope.record = none ∧ m.envelope.path = .idle)
        ∧ (l.envelope.path = .claiming → m.envelope.path = .claiming ∧ m.envelope.record
            = some (if r.abandoned then r else { r with abandoned := true, faultAtEnd := false }))
        ∧ (l.envelope.path = .opened → m.envelope = { l.envelope with
              record := none, path := .idle, slotTimer := none, entryFilter := none }
            ∧ (m.driver .envGate).commanded = false ∧ m.ledgers.places = l.ledgers.places - 1)
        ∧ (l.envelope.path = .capturing → m.envelope = l.envelope)
    (∀ n, (l.settings.loop.get n).role = .holdup → l.rawClass n = .active →
      (l.loops.entry.get n).candidate.isSome = true → (l.loops.entry.get n).filtered ≠ some .active →
      l.setupDone = true →
      let change : Notice := .loopChange n .holdup ((l.loops.entry.get n).filtered.getD .normal) .active
      let told := queued l.bus.queue (toConsole l.settings.supervisor 0 change)
      let sent := queued (told.map (fun f => { f with onLine := false }))
        (toEvery (.lockdown ⟨l.sup.lane, n⟩) 0 :: if l.lockdown.state = .locked then [] else l.statusOut)
      ∃ m, exec (.loopFilterExpiry n) ⟨q, l⟩ = .next ⟨q, m⟩
        ∧ record (some ⟨l.sup.lane, n⟩) m
        ∧ m.loops = { l.loops with entry := l.loops.entry.set n { l.loops.entry.get n with
            candidate := none, filtered := some .active, latch := true, since := l.clock } }
        ∧ m.bus.breakTimer = some (l.clock + 5) ∧ (m.driver .silentRelay).commanded = true
        ∧ (l.lockdown.state ≠ .clear →
            m = { l with
              loops := m.loops
              lockdown := m.lockdown
              drivers := (l.command .silentRelay true).drivers
              journal :=
                if l.journal.queue.length + l.heldSlots < 16 then
                  { l.journal with queue := l.journal.queue ++
                      [{ record := .lockdown (some ⟨l.sup.lane, n⟩), seconds := l.wallSeconds
                         reserved := false }] }
                else { l.journal with lost := true }
              ledgers := { l.ledgers with
                announce := if l.lockdown.state = .locked then l.ledgers.announce else status l }
              bus := { l.bus with
                breakTimer := some (l.clock + 5)
                queue := sent } })
        ∧ (l.lockdown.state = .clear → entered m sent))
    ∧ (l.bus.breakTimer.isSome = true → exec .breakHeard ⟨q, l⟩ = .next ⟨q, l⟩)
    ∧ (l.bus.breakTimer = none → l.sup.service ≠ .failed → l.lockdown.state ≠ .clear →
        exec .breakHeard ⟨q, l⟩ = .next ⟨q, { l with
          lockdown := { l.lockdown with state := .locked, hold := hold }
          ledgers := { l.ledgers with
            announce := if l.lockdown.state = .locked then l.ledgers.announce else status l }
          bus := { l.bus with
            queue := queued offLine (if l.lockdown.state = .locked then [] else l.statusOut) } }⟩)
    ∧ (l.bus.breakTimer = none → l.sup.service = .failed →
        exec .breakHeard ⟨q, l⟩ = .next ⟨q, { l with bus := { l.bus with queue := offLine } }⟩)
    ∧ (l.bus.breakTimer = none → l.sup.service ≠ .failed → l.lockdown.state = .clear →
        ∃ m, exec .breakHeard ⟨q, l⟩ = .next ⟨q, m⟩ ∧ entered m (queued offLine l.statusOut) ∧ record none m)
    ∧ (∀ source origin, source.val ≠ 15 → source ≠ laneStation l.sup.lane →
        (l.sup.service = .failed →
          exec (.lockdownFrameHeard source origin) ⟨q, l⟩ = .next ⟨q, l.stationHeard source⟩)
        ∧ (l.sup.service ≠ .failed → ∃ m, exec (.lockdownFrameHeard source origin) ⟨q, l⟩ = .next ⟨q, m⟩
          ∧ (l.lockdown.state = .clear →
              entered m (queued l.bus.queue l.statusOut) ∧ record origin m)
          ∧ (l.lockdown.state ≠ .clear →
              m.lockdown = { l.lockdown with state := .locked, hold := hold }
              ∧ m.payout = l.payout ∧ m.intake = l.intake
              ∧ m.envelope = l.envelope ∧ m.drivers = l.drivers ∧ m.journal = l.journal
              ∧ m.bus.queue
                  = queued l.bus.queue (if l.lockdown.state = .locked then [] else l.statusOut))))
    ∧ (∀ origin,
        let own := exec (.lockdownFrameHeard (laneStation l.sup.lane) origin) ⟨q, l⟩
        let left := l.bus.queue.eraseP (·.onLine)
        (∀ f o, l.onLine? = some f → f.body = .lockdown o →
          (l.sup.service = .failed →
            own = .next ⟨q, { l with bus := { l.bus with queue := left, drops := 0 } }⟩)
          ∧ (l.sup.service ≠ .failed → l.lockdown.state = .clear →
            ∃ m, own = .next ⟨q, m⟩ ∧ entered m (queued left l.statusOut) ∧ record (some o) m
              ∧ m.bus.drops = 0)
          ∧ (l.sup.service ≠ .failed → l.lockdown.state ≠ .clear → own = .next ⟨q, { l with
              lockdown := { l.lockdown with state := .locked, hold := hold }
              ledgers := { l.ledgers with
                announce := if l.lockdown.state = .locked then l.ledgers.announce else status l }
              bus := { l.bus with
                drops := 0
                queue := queued left (if l.lockdown.state = .locked then [] else l.statusOut) } }⟩))
        ∧ ((∀ f, l.onLine? = some f → ∀ o, f.body ≠ .lockdown o) → own = .next ⟨q, { l with
            bus := { l.bus with mute := .clash, queue := offLine } }⟩))
    ∧ exec .breakEnd ⟨q, l⟩ = .next ⟨q, { l with bus := { l.bus with breakTimer := none } }⟩
    ∧ (l.lockdown.state = .locked → l.lockdown.hold.isSome = true →
        exec .holdTimerExpiry ⟨q, l⟩ = .next ⟨q, { l.sending l.statusOut with
          lockdown := { l.lockdown with state := .releasable, hold := none }
          ledgers := { l.ledgers with announce := status l } }⟩)
    ∧ (l.lockdown.state ≠ .locked ∨ l.lockdown.hold = none →
        exec .holdTimerExpiry ⟨q, l⟩ = .next ⟨q, l⟩)

/-- RESUME is tested in the order of R157 and a refused one changes nothing but the answer, which carries the
remaining hold where the lane is CLEAR or LOCKED: 0, or the time left on the hold timer in whole seconds, a part
of a second counting as one: 1 to 1,800 of them, as no hold runs longer than 1,800 s. One that passes makes the
lane CLEAR and its relay off, writes its record, answers DONE with the lanes still locked, and lets the shutter and
the strobe follow; an OPEN lane becomes CLOSED. A suspended escrow timer runs on from its remaining time. A
deferred present of returns is made where no drawer driver is faulted and the drawer is not jammed, that of a
giveback where the drawer is free as well: the stacker's notes go to the tray and an EXTEND run starts, which ends
at once, with the take timer started, where the OUT sensor already reports. Otherwise it stays deferred. In an OPEN
lane what LANE close does to the jobs comes before the REPLY, with its STATUS. The order of the frames of one class is
the model's choice (log entry 23). -/
def Obligations.ResumeIsTestedAndClearsTheLane : Prop :=
  ∀ (h : Sender) (seconds : Nat) (q : List Instr) (l : Lane), l.takes h = true →
    (l.lockdown.state = .locked → ∃ t, l.lockdown.hold = some t ∧ l.clock < t
      ∧ 1000 * (seconds - 1) < t - l.clock ∧ t - l.clock ≤ 1000 * seconds) →
    let locked := eightNumbers.any (fun n =>
      (l.settings.loop.get n).role == .holdup && (l.loops.entry.get n).filtered == some .active)
    let tests : List (Bool × Outgoing) :=
      [(l.settings.supervisor != some h.source, replyTo h 18 .notPermitted),
       (l.lockdown.state == .clear, replyTo h 18 .state (.remainingHold 0)),
       (l.lockdown.state == .locked, replyTo h 18 .state (.remainingHold seconds)),
       (locked, replyTo h 18 .locked)]
    (∀ t, l.lockdown.state = .locked → l.lockdown.hold = some t → t ≤ l.clock + 1800 * 1000 →
      1 ≤ seconds ∧ seconds ≤ 1800)
    ∧ (∀ answer, firstFailing tests = some answer →
      exec (.resume h) ⟨q, l⟩ = .next ⟨q, l.sending [answer]⟩)
    ∧ (firstFailing tests = none → l.settled = true →
      let deferred := fun (i : Intake) => i.presentDeferred = true ∧ (i.state = .returning ∨ i.state = .givingBack)
      let free := l.drawer.owner = none ∧ l.drawer.position = .home ∧ l.drawer.contents = .empty
        ∧ l.drawer.movement = none ∧ l.drawer.travel = none
      let able := fun (i : Intake) => (l.driver .drawerOut).latched.isEmpty = true
        ∧ (l.driver .drawerIn).latched.isEmpty = true
        ∧ (i.state = .returning → l.drawer.position ≠ .jammed) ∧ (i.state = .givingBack → free)
      let runs := fun (i : Intake) => { i with timer := match i.timer with
        | .suspended r => .running (l.clock + r)
        | x => x }
      ∃ m, exec (.resume h) ⟨q, l⟩ = .next ⟨q, m⟩
        ∧ m.lockdown = { l.lockdown with state := .clear, hold := none }
        ∧ (m.driver .silentRelay).commanded = false
        ∧ (m.driver .shutter).commanded = l.setupDone
        ∧ (l.sup.causes.attack = true → (m.driver .strobe).commanded = true)
        ∧ (l.sup.service = .opened → m.sup = { l.sup with service := .closed })
        ∧ (∀ i, l.intake = some i → deferred i → able i →
            m.intake = some { runs i with presentDeferred := false, presentMade := true }
            ∧ m.drawer.presented = l.transport.stacker.notes ∧ m.transport.stacker.notes = 0
            ∧ (i.state = .givingBack → m.drawer.owner = some ⟨.giveback, i.tag⟩)
            ∧ (l.drawer.atEnd ≠ some .out → m.drawer.movement = some .extend ∧ m.drawer.position = .extending
                ∧ (m.driver .drawerOut).commanded = true)
            ∧ (l.drawer.atEnd = some .out → l.payout = none → m.drawer.movement = none
                ∧ m.drawer.position = .out ∧ (m.driver .drawerOut).commanded = false
                ∧ (l.drawer.receiving = false →
                    m.drawer.take = some (l.clock + l.settings.takeTimeout * 1000))))
        ∧ (∀ i, l.intake = some i → ¬(deferred i ∧ able i) →
            m.intake = some (runs i) ∧ m.drawer = l.drawer ∧ m.transport = l.transport)
        ∧ (let cleared : Lane := { l with
            lockdown := m.lockdown
            journal :=
              if l.journal.queue.length + l.heldSlots < 16 then
                { l.journal with queue := l.journal.queue ++
                    [{ record := .resume, seconds := l.wallSeconds, reserved := false }] }
              else { l.journal with lost := true } }
          let closes := ({ cleared with sup := { l.sup with service := .closed } } : Lane).jobsClosed
          let left := if l.sup.service = .opened then closes.sending [toEvery (.status none) 0] else cleared
          let done := replyTo h 18 .done (.lanesLocked (l.ledgers.peer.map (fun p =>
            p.state == .fresh && (p.lock == some .locked || p.lock == some .releasable))))
          l.drawer.atEnd ≠ some .out ∨ l.payout = none ∨ (∀ i, l.intake = some i → ¬(deferred i ∧ able i)) →
          m = { left.sending (done :: left.statusOut) with
            intake := m.intake, drawer := m.drawer, transport := m.transport
            drivers := m.drivers
            ledgers := { left.ledgers with
              announce := if left.sup.service = .setup ∨ left.sup.service = .closed then
                some (l.clock + l.settings.announce * 1000) else l.ledgers.announce } }))

/-! ### Wall ledgers -/

/-- W_eff is the least of the own W and the W heard of every FRESH entry whose service heard is CLOSED or OPEN, and
S_eff of S; MISMATCH is set while such an entry's W or S differs from the own.

A good frame of another station ends ISOLATED and restarts the silence timer, counts toward the end of MUTE, and
refreshes its sender's entry; a console's touches no entry. A CLAIM or RELEASE adjusts a FRESH entry alone,
within its limits; a STATUS sets an entry absolutely, and one in SETUP has the safe lane queue its BEGIN again while
a service is in progress. A FRESH entry goes STALE at its timeout, an UNKNOWN one goes SILENT or STALE at its
deadline, and the silence timer isolates the lane. After SETUP_DONE the supervisor console is told when MISMATCH
changes, and when W_eff or S_eff changes while it is set. A frame with this lane's own number is a CLASH.

The model's choices: a *_HEARD command is the arrival of a whole good frame, one of source 15 counts toward the end
of MUTE alone, and a service of STARTING or FAILED is heard as none (log entry 3); a silence or listen-deadline
expiry with no such timer running, and a stale timeout of an entry not FRESH, change nothing (log entry 2); tag 0
of the notice and of a repeated BEGIN (log entry 22); one notice of an event that moves MISMATCH and a limit,
queued before a repeated BEGIN (log entry 23). -/
def Obligations.PeerFramesAndTimesKeepTheTable : Prop :=
  ∀ (q : List Instr) (l : Lane),
    let heard : Lane := { l with
      bus := { l.bus with
        mute := match l.bus.mute with | .drops k => .drops (min 32 (k + 1)) | .no => .no | .clash => .clash }
      ledgers := { l.ledgers with
        isolated := false
        silence := if l.ledgers.isolated = true ∨ l.ledgers.silence.isSome = true
          then some (l.clock + 5 * l.settings.announce * 1000) else none } }
    let withPeer := fun (n : LaneNo) (p : Peer) =>
      { heard with ledgers := { heard.ledgers with peer := l.ledgers.peer.set n p } }
    let other := fun (p : Peer) => { p with
      heard := true, heardAt := l.clock
      state := match p.state with | .absent => .unknown | .silent => .stale | x => x
      deadline := if p.state = .absent then
          (if l.setupDone then some (l.clock + 2 * (4 * l.settings.announce * 1000)) else none)
        else p.deadline }
    let peer := fun n => l.ledgers.peer.get n
    let takesPart := fun n => (peer n).state = .fresh
      ∧ ((peer n).service = some .closed ∨ (peer n).service = some .opened)
    let differs := fun n => takesPart n
      ∧ ((∃ w ∈ (peer n).wall, w ≠ l.settings.wall) ∨ ∃ c ∈ (peer n).safe, c ≠ l.settings.safe)
    let news := fun (m : Lane) =>
      if l.setupDone = true ∧ (m.mismatch ≠ l.mismatch
          ∨ (m.mismatch = true ∧ (m.wallEff ≠ l.wallEff ∨ m.safeEff ≠ l.safeEff)))
      then toConsole l.settings.supervisor 0
        (.mismatch l.settings.wall l.settings.safe m.wallEff m.safeEff m.differing)
      else []
    let inService := l.envelope.phase = .begun ∨ l.envelope.phase = .doorOpen ∨ l.envelope.phase = .doorClosed
    (l.wallEff ≤ l.settings.wall ∧ (∀ n, takesPart n → ∀ w, (peer n).wall = some w → l.wallEff ≤ w)
      ∧ (l.wallEff = l.settings.wall ∨ ∃ n, takesPart n ∧ (peer n).wall = some l.wallEff))
    ∧ (l.safeEff ≤ l.settings.safe ∧ (∀ n, takesPart n → ∀ c, (peer n).safe = some c → l.safeEff ≤ c)
      ∧ (l.safeEff = l.settings.safe ∨ ∃ n, takesPart n ∧ (peer n).safe = some l.safeEff))
    ∧ (∀ n, l.differing.get n = true ↔ differs n)
    ∧ (l.mismatch = true ↔ ∃ n, differs n)
    ∧ (∀ (source : Station) (k : Quantity) (a : Nat) (s : StatusHeard),
      (source.val = 15 →
        let counted : Lane := { l with bus := { l.bus with mute := heard.bus.mute } }
        exec (.peerClaimHeard source k a) ⟨q, l⟩ = .next ⟨q, counted⟩
        ∧ exec (.peerReleaseHeard source k a) ⟨q, l⟩ = .next ⟨q, counted⟩
        ∧ exec (.peerStatusHeard source s) ⟨q, l⟩ = .next ⟨q, counted⟩)
      ∧ (source = laneStation l.sup.lane →
        let clash : Lane := { l with bus := { l.bus with
          mute := .clash, queue := l.bus.queue.map (fun f => { f with onLine := false }) } }
        exec (.peerClaimHeard source k a) ⟨q, l⟩ = .next ⟨q, clash⟩
        ∧ exec (.peerReleaseHeard source k a) ⟨q, l⟩ = .next ⟨q, clash⟩
        ∧ exec (.peerStatusHeard source s) ⟨q, l⟩ = .next ⟨q, clash⟩)
      ∧ (8 ≤ source.val → source.val ≠ 15 →
        exec (.peerClaimHeard source k a) ⟨q, l⟩ = .next ⟨q, heard⟩
        ∧ exec (.peerReleaseHeard source k a) ⟨q, l⟩ = .next ⟨q, heard⟩
        ∧ exec (.peerStatusHeard source s) ⟨q, l⟩ = .next ⟨q, heard⟩)
      ∧ ∀ n : LaneNo, source = laneStation n → n ≠ l.sup.lane →
        let p := l.ledgers.peer.get n
        (p.state ≠ .fresh →
          exec (.peerClaimHeard source k a) ⟨q, l⟩ = .next ⟨q, withPeer n (other p)⟩
          ∧ exec (.peerReleaseHeard source k a) ⟨q, l⟩ = .next ⟨q, withPeer n (other p)⟩)
        ∧ (p.state = .fresh →
          exec (.peerClaimHeard source .cash a) ⟨q, l⟩
            = .next ⟨q, withPeer n { other p with cash := min 500000 (p.cash + a) }⟩
          ∧ exec (.peerClaimHeard source .place a) ⟨q, l⟩
            = .next ⟨q, withPeer n { other p with places := min 5000 (p.places + a) }⟩
          ∧ exec (.peerReleaseHeard source .cash a) ⟨q, l⟩
            = .next ⟨q, withPeer n { other p with cash := p.cash - a }⟩
          ∧ exec (.peerReleaseHeard source .place a) ⟨q, l⟩
            = .next ⟨q, withPeer n { other p with places := p.places - a }⟩)
        ∧ ∃ m, exec (.peerStatusHeard source s) ⟨q, l⟩ = .next ⟨q, m⟩
          ∧ m = { withPeer n { p with
                state := .fresh, cash := min 500000 s.cash, places := min 5000 s.places
                wall := some s.wall, safe := some s.safe, lock := s.lock
                service := if s.service = some .setup ∨ s.service = some .closed ∨ s.service = some .opened
                  then s.service else none
                heard := true, heardAt := l.clock, deadline := none } with
              bus := { heard.bus with queue := m.bus.queue } }
          ∧ m.bus.queue = queued l.bus.queue (news m
              ++ if s.service = some .setup ∧ inService then [toEvery (.serviceBegin false) 0] else []))
    ∧ (∀ n,
      let p := l.ledgers.peer.get n
      (p.state ≠ .fresh → exec (.staleTimeout n) ⟨q, l⟩ = .next ⟨q, l⟩)
      ∧ (p.state = .fresh → ∃ m, exec (.staleTimeout n) ⟨q, l⟩ = .next ⟨q, m⟩
        ∧ m = { l with
            ledgers := { l.ledgers with peer := l.ledgers.peer.set n { p with state := .stale } }
            bus := { l.bus with queue := m.bus.queue } }
        ∧ m.bus.queue = queued l.bus.queue (news m))
      ∧ (p.state ≠ .unknown ∨ p.deadline = none → exec (.listenDeadline n) ⟨q, l⟩ = .next ⟨q, l⟩)
      ∧ (p.state = .unknown → p.deadline.isSome = true →
        exec (.listenDeadline n) ⟨q, l⟩ = .next ⟨q, { l with ledgers := { l.ledgers with
          peer := l.ledgers.peer.set n
            { p with state := if p.heard then .stale else .silent, deadline := none } } }⟩))
    ∧ exec .silenceTimerExpiry ⟨q, l⟩ = .next ⟨q,
        if l.ledgers.silence = none then l
        else { l with ledgers := { l.ledgers with silence := none, isolated := true } }⟩

/-! ### The wall bus -/

/-- The head of the queue contends while the station may: a STATUS takes its content, and the first attempt of a
CLAIM takes its job to CLAIMING; a later one leaves it there. A lost arbitration leaves the frame as it was; a failed
attempt is counted, and the eighth drops the frame with what its owner does then, the fourth drop in a row muting the
station; a SAFE_OPEN's BEGIN dropped with the safe door ACTIVE raises the door's alarm. A readback takes the frame
out of the queue; the readbacks of LOCKDOWN, CLAIM, SAFE_SERVICE and EMPTIED are rows of their own, and
FRAME_READBACK with one of these on the line changes nothing. MUTE with cause DROPS ends after 32 good frames, and
the announce timer queues a STATUS. That the events of the line with nothing on it, a readback under another frame's
row, an attempt that may not start, MUTE_DROPS_END outside such a MUTE and an announce expiry with no timer change
nothing is the model's choice (log entry 2), as is what is queued before a REPLY LINE: the NOTICE ALARM of a
dropped BEGIN, and the NOTICE JOURNAL which the returned slots of a dropped CLAIM, a payout's or an envelope's, may
cause (log entry 23). -/
def Obligations.AttemptsCarryFramesOrDropThem : Prop :=
  ∀ (q : List Instr) (l : Lane),
    let queueIs := fun x => { l with bus := { l.bus with queue := x } }
    (∀ f rest, l.bus.queue = f :: rest →
      let free := l.bus.mute = .no ∧ l.bus.breakTimer = none ∧ (∀ g ∈ l.bus.queue, g.onLine = false)
        ∧ l.sup.service ≠ .starting ∧ l.sup.service ≠ .failed
      let body := match f.body with
        | .status _ => .status (some
            { service := l.sup.service, lock := l.lockdown.state, cash := l.ledgers.cash
              places := l.ledgers.places, wall := l.settings.wall, safe := l.settings.safe
              conditions := l.statusConditions, free := l.journal.free })
        | b => b
      let base := queueIs ({ f with body := body, begun := true, onLine := true } :: rest)
      (¬free → exec .attemptStart ⟨q, l⟩ = .next ⟨q, l⟩)
      ∧ (free → f.abandoned = true ∨ (∀ k a, f.body ≠ .claim k a) →
          exec .attemptStart ⟨q, l⟩ = .next ⟨q, base⟩)
      ∧ (free → f.abandoned = false → ∀ a p, f.body = .claim .cash a → l.payout = some p → p.state = .staged →
          exec .attemptStart ⟨q, l⟩ = .next ⟨q, { base with payout := some { p with state := .claiming } }⟩)
      ∧ (free → f.abandoned = false → ∀ a, f.body = .claim .place a → l.envelope.path = .staged →
          exec .attemptStart ⟨q, l⟩
            = .next ⟨q, { base with envelope := { l.envelope with path := .claiming } }⟩)
      ∧ (free → (∃ a, f.body = .claim .cash a) → (∀ p, l.payout = some p → p.state ≠ .staged) →
          exec .attemptStart ⟨q, l⟩ = .next ⟨q, base⟩)
      ∧ (free → (∃ a, f.body = .claim .place a) → l.envelope.path ≠ .staged →
          exec .attemptStart ⟨q, l⟩ = .next ⟨q, base⟩))
    ∧ (l.bus.queue = [] → exec .attemptStart ⟨q, l⟩ = .next ⟨q, l⟩)
    ∧ exec .arbitrationLost ⟨q, l⟩
        = .next ⟨q, queueIs (l.bus.queue.map (fun f => { f with onLine := false }))⟩
    ∧ (l.onLine? = none →
        exec .attemptFailed ⟨q, l⟩ = .next ⟨q, l⟩ ∧ exec .frameReadback ⟨q, l⟩ = .next ⟨q, l⟩)
    ∧ (∀ f, l.onLine? = some f →
      let readBack : Lane := { l with bus := { l.bus with
        queue := l.bus.queue.eraseP (·.onLine), drops := 0 } }
      let gone : Lane := { l with bus := { l.bus with
        queue := l.bus.queue.eraseP (·.onLine), drops := l.bus.drops + 1
        mute := if l.bus.drops + 1 = 4 ∧ l.bus.mute = .no then .drops 0 else l.bus.mute } }
      let quiet := (∃ o, f.body = .lockdown o) ∨ (∃ k a, f.body = .release k a)
        ∨ (∃ k c b, f.body = .reply k c b) ∨ (∃ n, f.body = .notice n) ∨ (∃ c, f.body = .status c)
        ∨ f.body = .serviceBegin false ∨ f.body = .serviceEnd false
        ∨ ((∃ a, f.body = .claim .cash a) ∧ (f.abandoned = true
            ∨ ∀ p, l.payout = some p → p.state ≠ .staged ∧ p.state ≠ .claiming))
        ∨ ((∃ a, f.body = .claim .place a) ∧ l.envelope.record = none)
      (f.failed < 7 → exec .attemptFailed ⟨q, l⟩ = .next ⟨q, queueIs (l.bus.queue.map (fun g =>
          if g.onLine then { g with failed := g.failed + 1, onLine := false } else g))⟩)
      ∧ (7 ≤ f.failed → quiet → exec .attemptFailed ⟨q, l⟩ = .next ⟨q, gone⟩)
      ∧ (7 ≤ f.failed → ∀ a p, f.body = .claim .cash a → f.abandoned = false → l.payout = some p →
          p.state = .staged ∨ p.state = .claiming →
          exec .attemptFailed ⟨q, l⟩ = .next ⟨q,
            (({ gone.abandonClaim .cash with payout := none } : Lane).returning p.slots).sending
              [replyTo ⟨p.console, p.tag⟩ 5 .line]⟩)
      ∧ (7 ≤ f.failed → ∀ a r, f.body = .claim .place a → l.envelope.record = some r →
          (r.abandoned = true → exec .attemptFailed ⟨q, l⟩ = .next ⟨q, { gone with
            envelope := { l.envelope with record := none, path := if r.faultAtEnd then .fault else .idle } }⟩)
          ∧ (r.abandoned = false → exec .attemptFailed ⟨q, l⟩ = .next ⟨q,
            (({ gone with envelope := { l.envelope with record := none, path := .idle } } : Lane).returning
              1).sending [replyTo ⟨r.console, r.tag⟩ 10 .line]⟩))
      ∧ (7 ≤ f.failed → ∀ c, l.settings.supervisor = some c →
          ((∃ e, f.body = .emptied e) ∨ f.body = .serviceEnd true →
            exec .attemptFailed ⟨q, l⟩ = .next ⟨q, gone.sending [replyTo ⟨c, f.tag⟩ 17 .line]⟩)
          ∧ (f.body = .serviceBegin true → l.openDoorLoop = none →
            exec .attemptFailed ⟨q, l⟩ = .next ⟨q, { gone.sending [replyTo ⟨c, f.tag⟩ 16 .line] with
              envelope := { l.envelope with phase := .noService } }⟩)
          ∧ (∀ n, f.body = .serviceBegin true → l.openDoorLoop = some n →
            exec .attemptFailed ⟨q, l⟩ = .next ⟨q,
              { gone.sending (l.toBoth (.alarm n .safeDoor .active .door) ++ [replyTo ⟨c, f.tag⟩ 16 .line]) with
                envelope := { l.envelope with phase := .noService }
                drivers := if l.lockdown.state = .clear then
                    { (l.command .strobe true).drivers with
                      strobeMinOn := some (l.clock + l.settings.strobeMinOn * 1000) }
                  else l.drivers }⟩))
      ∧ ((∃ k a, f.body = .release k a) ∨ (∃ k c b, f.body = .reply k c b) ∨ (∃ n, f.body = .notice n)
            ∨ ((∃ c, f.body = .status c) ∧ f.again = false) →
          exec .frameReadback ⟨q, l⟩ = .next ⟨q, readBack⟩)
      ∧ ((∃ c, f.body = .status c) → f.again = true → exec .frameReadback ⟨q, l⟩ = .next ⟨q, { l with
          bus := { l.bus with
            drops := 0
            queue := l.bus.queue.map (fun g =>
              if g.onLine then { g with again := false, failed := 0, onLine := false } else g) } }⟩)
      ∧ ((∃ o, f.body = .lockdown o) ∨ (∃ k a, f.body = .claim k a) ∨ (∃ x, f.body = .serviceBegin x)
            ∨ (∃ x, f.body = .serviceEnd x) ∨ (∃ e, f.body = .emptied e) →
          exec .frameReadback ⟨q, l⟩ = .next ⟨q, l⟩))
    ∧ (∀ n, l.bus.mute = .drops n → exec .muteDropsEnd ⟨q, l⟩ = .next ⟨q,
        if 32 ≤ n then { l with bus := { l.bus with mute := .no, drops := 0 } } else l⟩)
    ∧ (l.bus.mute = .no ∨ l.bus.mute = .clash → exec .muteDropsEnd ⟨q, l⟩ = .next ⟨q, l⟩)
    ∧ (l.ledgers.announce = none → exec .announceTimerExpiry ⟨q, l⟩ = .next ⟨q, l⟩)
    ∧ (l.ledgers.announce.isSome = true → exec .announceTimerExpiry ⟨q, l⟩ = .next ⟨q,
        { l.sending l.statusOut with ledgers := { l.ledgers with
            announce := if l.statusOut = [] then l.ledgers.announce
              else some (l.clock + l.settings.announce * 1000) } }⟩)

/-- A frame that crosses the line is checked in the order of R181: a bad check or source 15 is discarded, this
lane's own number is a CLASH, a code that names no kind and a wrong length are discarded, and answered MALFORMED
where a console asked this lane. A good frame of another station acts as the row of the table for its kind; a
request does so after its sender is heard, taken at this lane's number, and at 15 for ROLLCALL alone, with
nonzero reserved bits MALFORMED. A discarded frame with a good check counts for the silence timer, for the end of
MUTE and, from a lane, for its entry; so does a CLAIM, RELEASE or SAFE_SERVICE with an unknown payload code, which
does nothing else.

The model's choices: one step takes the whole frame, the lane's own number is a CLASH whatever is on the line, a
discarded frame of source 15 counts for MUTE alone, and an unknown payload code of a lane's frame refreshes only (log
entry 3); a LANE action above 2 is MALFORMED (log entry 10); the reset of a RESTART frame reads free values (log
entry 20). -/
def Obligations.ReceivedFramesActAsTheirRows : Prop :=
  ∀ (f : WireFrame) (q : List Instr) (l : Lane), l.settled = true →
    let whole := f.payload.length = f.length.val ∧ WireFrame.checkOk f = true
    let own := laneStation l.sup.lane
    let h : Sender := ⟨f.source, f.tag⟩
    let heard := l.stationHeard f.source
    let byte := fun i => payloadByte f.payload i
    let toLane := f.dest = own ∨ (f.dest.val = 15 ∧ f.kind = 22)
    let malformed := if isConsole f.source = true ∧ l.sup.service ≠ .failed
      then heard.sending [replyTo h f.kind .malformed] else heard
    let as_ := fun (c : Instr) => exec (.frameReceived f) ⟨q, l⟩ = exec c ⟨q, l⟩
    let asked := fun (c : Instr) => exec (.frameReceived f) ⟨q, l⟩ = exec c ⟨q, heard⟩
    let supervises := l.settings.supervisor = some f.source
    let refused := fun (code : ReplyCode) => exec (.frameReceived f) ⟨q, l⟩
      = .next ⟨q, if heard.takes h then heard.sending [replyTo h f.kind code] else heard⟩
    (¬whole → exec (.frameReceived f) ⟨q, l⟩ = .next ⟨q, l⟩)
    ∧ (whole → f.source = own → exec (.frameReceived f) ⟨q, l⟩ = .next ⟨q, { l with
        bus := { l.bus with
          mute := .clash, queue := l.bus.queue.map (fun g => { g with onLine := false }) } }⟩)
    ∧ (whole → f.source.val = 15 → exec (.frameReceived f) ⟨q, l⟩ = .next ⟨q, { l with
        bus := { l.bus with mute := match l.bus.mute with | .drops k => .drops (min 32 (k + 1)) | x => x } }⟩)
    ∧ (whole → f.source.val ≠ 15 → f.source ≠ own →
      (28 ≤ f.kind.val → exec (.frameReceived f) ⟨q, l⟩
        = .next ⟨q, if f.dest = own then malformed else heard⟩)
      ∧ (f.kind.val < 28 → kindLength f.kind ≠ some f.length.val → exec (.frameReceived f) ⟨q, l⟩
        = .next ⟨q, if isRequestKind f.kind = true ∧ toLane then malformed else heard⟩)
      ∧ (kindLength f.kind = some f.length.val →
        (f.kind = 0 → as_ (.lockdownFrameHeard f.source (originOf f.payload)))
        ∧ (∀ k, quantityOf (byte 0) = some k →
          (f.kind = 1 → as_ (.peerClaimHeard f.source k (payloadField f.payload 1 3)))
          ∧ (f.kind = 2 → as_ (.peerReleaseHeard f.source k (payloadField f.payload 1 3))))
        ∧ (quantityOf (byte 0) = none → f.kind = 1 ∨ f.kind = 2 → exec (.frameReceived f) ⟨q, l⟩ = .next ⟨q, heard⟩)
        ∧ (1 < (byte 0).toNat → f.kind = 3 → exec (.frameReceived f) ⟨q, l⟩ = .next ⟨q, heard⟩)
        ∧ (f.kind = 3 → byte 0 = 0#8 → as_ (.safeServiceBeginHeard f.source))
        ∧ (f.kind = 3 → byte 0 = 1#8 → as_ (.safeServiceEndHeard f.source))
        ∧ (f.kind = 4 → as_ (.emptiedHeard f.source (payloadField f.payload 0 2)))
        ∧ (f.kind = 27 → as_ (.peerStatusHeard f.source (statusOf f.payload)))
        ∧ (f.kind = 25 ∨ f.kind = 26 ∨ (isRequestKind f.kind = true ∧ ¬toLane) →
          exec (.frameReceived f) ⟨q, l⟩ = .next ⟨q, heard⟩)
        ∧ (toLane →
          (f.kind = 5 → asked (.payout h (payloadField f.payload 0 3) (byte 3)))
          ∧ (f.kind = 6 → asked (.recall h))
          ∧ (f.kind = 7 → asked (.intake h (byte 0)))
          ∧ (f.kind = 8 → asked (.keep h))
          ∧ (f.kind = 9 → asked (.giveback h))
          ∧ (f.kind = 10 → asked (.slot h))
          ∧ (f.kind = 11 → asked (.inventory h (byte 0)))
          ∧ (f.kind = 12 → asked
              (.restock h (byte 0) (payloadField f.payload 1 2) (payloadField f.payload 3 2)))
          ∧ (f.kind = 13 → asked (.journal h (payloadField f.payload 0 2)))
          ∧ (f.kind = 14 → byte 0 = 0#8 → asked (.loops h))
          ∧ (f.kind = 14 → byte 0 = 1#8 → asked (.loopsClear h))
          ∧ (f.kind = 15 → byte 0 = 0#8 → asked (.drivers h))
          ∧ (f.kind = 15 → byte 0 = 1#8 → asked (.driversClear h))
          ∧ (f.kind = 14 ∨ f.kind = 15 → 1 < (byte 0).toNat →
            refused (if (byte 0).toNat % 2 = 0 ∨ supervises then .malformed else .notPermitted))
          ∧ (f.kind = 16 → asked (.safeOpen h))
          ∧ (f.kind = 17 → asked (.safeClose h))
          ∧ (f.kind = 18 → asked (.resume h))
          ∧ (f.kind = 19 →
            (byte 1 = 0#8 → byte 0 = 0#8 → asked (.laneNone h))
            ∧ (byte 1 = 0#8 → byte 0 = 1#8 → asked (.laneOpen h))
            ∧ (byte 1 = 0#8 → byte 0 = 2#8 → asked (.laneClose h))
            ∧ (byte 1 = 1#8 → byte 0 = 0#8 → asked (.laneClearDrawer h .noAction))
            ∧ (byte 1 = 1#8 → byte 0 = 1#8 → asked (.laneClearDrawer h .openLane))
            ∧ (byte 1 = 1#8 → byte 0 = 2#8 → asked (.laneClearDrawer h .closeLane))
            ∧ (1 < (byte 1).toNat ∨ 2 < (byte 0).toNat →
              refused (if supervises then .malformed else .notPermitted)))
          ∧ (f.kind = 20 → asked (.test h))
          ∧ (f.kind = 21 →
            (∀ inp, ¬(supervises ∧ l.sup.service = .closed) → asked (.restart h inp))
            ∧ (supervises → l.sup.service = .closed →
              exec (.frameReceived f) ⟨q, l⟩ = if heard.takes h then
                exec (.restart h ⟨Config.restartLane l.free, (Config.restartCount l.free).val + 1,
                  Config.restartMemory l.free, Config.restartLoopback l.free, Config.restartConverter l.free⟩)
                  ⟨q, { heard with free := l.free + 1 }⟩
              else .next ⟨q, heard⟩))
          ∧ (f.kind = 22 → asked (.rollcall h (BitVec.ofNat 16 (payloadField f.payload 0 2))))
          ∧ (f.kind = 23 → asked (.setup h (byte 0) (byte 1) (BitVec.ofNat 32 (payloadField f.payload 2 4))))
          ∧ (f.kind = 24 → asked (.setupDone h)))))

end
end

