-- ==== Sys2Proof/Laws/State.lean ====
section
/-! SUPPORT. State: the small lemmas of State: the tables of four and of eight, and one lemma per field for
each plain update of the lane, true by rfl. -/

namespace Sys2Proof

/-! ### Tables -/

@[simp] theorem Four.get_set_self {α : Type} (t : Four α) (i : Position) (x : α) :
    (t.set i x).get i = x := by
  match i with
  | 0 | 1 | 2 | 3 => rfl

@[simp] theorem Four.get_set_other {α : Type} (t : Four α) (i j : Position) (x : α) (h : j ≠ i) :
    (t.set i x).get j = t.get j := by
  revert h
  match i, j with
  | 0, 0 | 1, 1 | 2, 2 | 3, 3 => exact fun h => absurd rfl h
  | 0, 1 | 0, 2 | 0, 3 | 1, 0 | 1, 2 | 1, 3 | 2, 0 | 2, 1 | 2, 3 | 3, 0 | 3, 1 | 3, 2 => exact fun _ => rfl

theorem Four.get_set {α : Type} (t : Four α) (i j : Position) (x : α) :
    (t.set i x).get j = if j = i then x else t.get j := by
  split
  · subst j; simp
  · simp [*]

@[simp] theorem Four.get_modify_self {α : Type} (t : Four α) (i : Position) (f : α → α) :
    (t.modify i f).get i = f (t.get i) := by simp [Four.modify]

@[simp] theorem Four.get_modify_other {α : Type} (t : Four α) (i j : Position) (f : α → α) (h : j ≠ i) :
    (t.modify i f).get j = t.get j := by simp [Four.modify, h]

@[simp] theorem Four.get_map {α β : Type} (f : α → β) (t : Four α) (i : Position) :
    (t.map f).get i = f (t.get i) := by
  match i with
  | 0 | 1 | 2 | 3 => rfl

@[simp] theorem Four.get_ofFn {α : Type} (f : Position → α) (i : Position) : (Four.ofFn f).get i = f i := by
  match i with
  | 0 | 1 | 2 | 3 => rfl

@[simp] theorem Four.get_replicate {α : Type} (x : α) (i : Position) : (Four.replicate x).get i = x := by
  match i with
  | 0 | 1 | 2 | 3 => rfl

@[simp] theorem Eight.get_set_self {α : Type} (t : Eight α) (i : Fin 8) (x : α) :
    (t.set i x).get i = x := by
  match i with
  | 0 | 1 | 2 | 3 | 4 | 5 | 6 | 7 => rfl

@[simp] theorem Eight.get_set_other {α : Type} (t : Eight α) (i j : Fin 8) (x : α) (h : j ≠ i) :
    (t.set i x).get j = t.get j := by
  revert h
  match i with
  | 0 | 1 | 2 | 3 | 4 | 5 | 6 | 7 =>
    intro h
    match j with
    | 0 | 1 | 2 | 3 | 4 | 5 | 6 | 7 => first | rfl | exact absurd rfl h

theorem Eight.get_set {α : Type} (t : Eight α) (i j : Fin 8) (x : α) :
    (t.set i x).get j = if j = i then x else t.get j := by
  split
  · subst j; simp
  · simp [*]

@[simp] theorem Eight.get_map {α β : Type} (f : α → β) (t : Eight α) (i : Fin 8) :
    (t.map f).get i = f (t.get i) := by
  match i with
  | 0 | 1 | 2 | 3 | 4 | 5 | 6 | 7 => rfl

@[simp] theorem Eight.get_ofFn {α : Type} (f : Fin 8 → α) (i : Fin 8) : (Eight.ofFn f).get i = f i := by
  match i with
  | 0 | 1 | 2 | 3 | 4 | 5 | 6 | 7 => rfl

@[simp] theorem Eight.get_replicate {α : Type} (x : α) (i : Fin 8) : (Eight.replicate x).get i = x := by
  match i with
  | 0 | 1 | 2 | 3 | 4 | 5 | 6 | 7 => rfl

/-- Different drivers have different places in the table. -/
theorem Driver.index_inj (d e : Driver) (h : d.index = e.index) : d = e := by
  cases d <;> cases e <;> first | rfl | exact absurd h (by decide)

namespace Machine

/-! ### What the plain updates set -/

@[simp] theorem State.onLane_eq (s : State) (f : Lane → Lane) :
    s.onLane f = .next { s with lane := f s.lane } := rfl

@[simp] theorem Lane.withTx_queue (l : Lane) (q : List TxFrame) : (l.withTx q).bus.queue = q := rfl
@[simp] theorem Lane.withTx_drops (l : Lane) (q : List TxFrame) : (l.withTx q).bus.drops = l.bus.drops := rfl
@[simp] theorem Lane.withTx_breakTimer (l : Lane) (q : List TxFrame) :
    (l.withTx q).bus.breakTimer = l.bus.breakTimer := rfl

@[simp] theorem Lane.driver_withDriver_self (l : Lane) (d : Driver) (e : DriverEntry) :
    (l.withDriver d e).driver d = e := by simp [Lane.withDriver, Lane.driver]

@[simp] theorem Lane.driver_withDriver_other (l : Lane) (d d' : Driver) (e : DriverEntry) (h : d' ≠ d) :
    (l.withDriver d e).driver d' = l.driver d' := by
  have : d'.index ≠ d.index := fun x => h (Driver.index_inj d' d x)
  simp [Lane.withDriver, Lane.driver, this]

@[simp] theorem Lane.enqueue_queue (l : Lane) (r : Record) (reserved : Bool) :
    (l.enqueue r reserved).journal.queue =
      l.journal.queue ++ [{ record := r, seconds := l.wallSeconds, reserved := reserved }] := rfl

@[simp] theorem Lane.withdrawCause_causes (l : Lane) (f : Causes → Causes) :
    (l.withdrawCause f).sup.causes = f l.sup.causes := rfl

@[simp] theorem Lane.lineOp_op (l : Lane) (op : Option LineOp) : (l.lineOp op).journal.op = op := rfl

@[simp] theorem Lane.setLoop_get (l : Lane) (n : LoopNo) (e : Loop) :
    (l.setLoop n e).loops.entry.get n = e := by simp [Lane.setLoop]

@[simp] theorem Lane.withPath_path (l : Lane) (rest : List PathNote) :
    (l.withPath rest).transport.path = rest := rfl

@[simp] theorem Lane.grant_owner (l : Lane) (o : Owner) : (l.grant o).drawer.owner = some o := rfl

@[simp] theorem Lane.powerReported_powerLost (l : Lane) : l.powerReported.sup.powerLost = false := rfl

@[simp] theorem Lane.tick_clock (l : Lane) : l.tick.clock = l.clock + 1 := rfl

/-! ### What the plain updates leave -/

@[simp] theorem Lane.withTx_frame (l : Lane) (q : List TxFrame) :
    (l.withTx q).clock = l.clock ∧ (l.withTx q).sup = l.sup ∧ (l.withTx q).settings = l.settings
    ∧ (l.withTx q).cass = l.cass ∧ (l.withTx q).transport = l.transport
    ∧ (l.withTx q).payout = l.payout ∧ (l.withTx q).drawer = l.drawer
    ∧ (l.withTx q).intake = l.intake ∧ (l.withTx q).envelope = l.envelope
    ∧ (l.withTx q).journal = l.journal ∧ (l.withTx q).loops = l.loops
    ∧ (l.withTx q).drivers = l.drivers ∧ (l.withTx q).lockdown = l.lockdown
    ∧ (l.withTx q).ledgers = l.ledgers ∧ (l.withTx q).bus.mute = l.bus.mute
    ∧ (l.withTx q).free = l.free :=
  ⟨rfl, rfl, rfl, rfl, rfl, rfl, rfl, rfl, rfl, rfl, rfl, rfl, rfl, rfl, rfl, rfl⟩

@[simp] theorem Lane.withDriver_frame (l : Lane) (d : Driver) (e : DriverEntry) :
    (l.withDriver d e).clock = l.clock ∧ (l.withDriver d e).sup = l.sup
    ∧ (l.withDriver d e).settings = l.settings ∧ (l.withDriver d e).cass = l.cass
    ∧ (l.withDriver d e).transport = l.transport ∧ (l.withDriver d e).payout = l.payout
    ∧ (l.withDriver d e).drawer = l.drawer ∧ (l.withDriver d e).intake = l.intake
    ∧ (l.withDriver d e).envelope = l.envelope ∧ (l.withDriver d e).journal = l.journal
    ∧ (l.withDriver d e).loops = l.loops ∧ (l.withDriver d e).lockdown = l.lockdown
    ∧ (l.withDriver d e).ledgers = l.ledgers ∧ (l.withDriver d e).bus = l.bus
    ∧ (l.withDriver d e).free = l.free :=
  ⟨rfl, rfl, rfl, rfl, rfl, rfl, rfl, rfl, rfl, rfl, rfl, rfl, rfl, rfl, rfl⟩

@[simp] theorem Lane.enqueue_frame (l : Lane) (r : Record) (reserved : Bool) :
    (l.enqueue r reserved).clock = l.clock ∧ (l.enqueue r reserved).sup = l.sup
    ∧ (l.enqueue r reserved).settings = l.settings ∧ (l.enqueue r reserved).cass = l.cass
    ∧ (l.enqueue r reserved).transport = l.transport ∧ (l.enqueue r reserved).payout = l.payout
    ∧ (l.enqueue r reserved).drawer = l.drawer ∧ (l.enqueue r reserved).intake = l.intake
    ∧ (l.enqueue r reserved).envelope = l.envelope
    ∧ (l.enqueue r reserved).journal.cells = l.journal.cells
    ∧ (l.enqueue r reserved).loops = l.loops ∧ (l.enqueue r reserved).drivers = l.drivers
    ∧ (l.enqueue r reserved).lockdown = l.lockdown ∧ (l.enqueue r reserved).ledgers = l.ledgers
    ∧ (l.enqueue r reserved).bus = l.bus ∧ (l.enqueue r reserved).free = l.free :=
  ⟨rfl, rfl, rfl, rfl, rfl, rfl, rfl, rfl, rfl, rfl, rfl, rfl, rfl, rfl, rfl, rfl⟩

@[simp] theorem Lane.withdrawCause_frame (l : Lane) (f : Causes → Causes) :
    (l.withdrawCause f).clock = l.clock ∧ (l.withdrawCause f).sup.service = l.sup.service
    ∧ (l.withdrawCause f).sup.lane = l.sup.lane
    ∧ (l.withdrawCause f).sup.laneCount = l.sup.laneCount
    ∧ (l.withdrawCause f).sup.scanning = l.sup.scanning
    ∧ (l.withdrawCause f).sup.homing = l.sup.homing ∧ (l.withdrawCause f).settings = l.settings
    ∧ (l.withdrawCause f).cass = l.cass ∧ (l.withdrawCause f).transport = l.transport
    ∧ (l.withdrawCause f).payout = l.payout ∧ (l.withdrawCause f).drawer = l.drawer
    ∧ (l.withdrawCause f).intake = l.intake ∧ (l.withdrawCause f).envelope = l.envelope
    ∧ (l.withdrawCause f).journal = l.journal ∧ (l.withdrawCause f).loops = l.loops
    ∧ (l.withdrawCause f).drivers = l.drivers ∧ (l.withdrawCause f).lockdown = l.lockdown
    ∧ (l.withdrawCause f).ledgers = l.ledgers ∧ (l.withdrawCause f).bus = l.bus
    ∧ (l.withdrawCause f).free = l.free :=
  ⟨rfl, rfl, rfl, rfl, rfl, rfl, rfl, rfl, rfl, rfl, rfl, rfl, rfl, rfl, rfl, rfl, rfl, rfl, rfl,
  rfl⟩

@[simp] theorem Lane.grant_frame (l : Lane) (o : Owner) :
    (l.grant o).clock = l.clock ∧ (l.grant o).sup = l.sup ∧ (l.grant o).settings = l.settings
    ∧ (l.grant o).cass = l.cass ∧ (l.grant o).transport = l.transport
    ∧ (l.grant o).payout = l.payout ∧ (l.grant o).drawer.movement = l.drawer.movement
    ∧ (l.grant o).drawer.position = l.drawer.position ∧ (l.grant o).intake = l.intake
    ∧ (l.grant o).envelope = l.envelope ∧ (l.grant o).journal = l.journal
    ∧ (l.grant o).loops = l.loops ∧ (l.grant o).drivers = l.drivers
    ∧ (l.grant o).lockdown = l.lockdown ∧ (l.grant o).ledgers = l.ledgers
    ∧ (l.grant o).bus = l.bus ∧ (l.grant o).free = l.free :=
  ⟨rfl, rfl, rfl, rfl, rfl, rfl, rfl, rfl, rfl, rfl, rfl, rfl, rfl, rfl, rfl, rfl, rfl⟩

@[simp] theorem Lane.startCount_frame (l : Lane) :
    l.startCount.clock = l.clock ∧ l.startCount.sup = l.sup ∧ l.startCount.settings = l.settings
    ∧ l.startCount.cass = l.cass ∧ l.startCount.transport = l.transport
    ∧ l.startCount.payout = l.payout ∧ l.startCount.drawer.movement = l.drawer.movement
    ∧ l.startCount.drawer.position = l.drawer.position ∧ l.startCount.intake = l.intake
    ∧ l.startCount.envelope = l.envelope ∧ l.startCount.journal = l.journal
    ∧ l.startCount.loops = l.loops ∧ l.startCount.drivers = l.drivers
    ∧ l.startCount.lockdown = l.lockdown ∧ l.startCount.ledgers = l.ledgers
    ∧ l.startCount.bus = l.bus ∧ l.startCount.free = l.free :=
  ⟨rfl, rfl, rfl, rfl, rfl, rfl, rfl, rfl, rfl, rfl, rfl, rfl, rfl, rfl, rfl, rfl, rfl⟩

@[simp] theorem Lane.lineOp_frame (l : Lane) (op : Option LineOp) :
    (l.lineOp op).clock = l.clock ∧ (l.lineOp op).sup = l.sup
    ∧ (l.lineOp op).settings = l.settings ∧ (l.lineOp op).cass = l.cass
    ∧ (l.lineOp op).transport = l.transport ∧ (l.lineOp op).payout = l.payout
    ∧ (l.lineOp op).drawer = l.drawer ∧ (l.lineOp op).intake = l.intake
    ∧ (l.lineOp op).envelope = l.envelope ∧ (l.lineOp op).journal.cells = l.journal.cells
    ∧ (l.lineOp op).loops = l.loops ∧ (l.lineOp op).drivers = l.drivers
    ∧ (l.lineOp op).lockdown = l.lockdown ∧ (l.lineOp op).ledgers = l.ledgers
    ∧ (l.lineOp op).bus = l.bus ∧ (l.lineOp op).free = l.free :=
  ⟨rfl, rfl, rfl, rfl, rfl, rfl, rfl, rfl, rfl, rfl, rfl, rfl, rfl, rfl, rfl, rfl⟩

@[simp] theorem Lane.dropHead_frame (l : Lane) :
    l.dropHead.clock = l.clock ∧ l.dropHead.sup = l.sup ∧ l.dropHead.settings = l.settings
    ∧ l.dropHead.cass = l.cass ∧ l.dropHead.transport = l.transport ∧ l.dropHead.payout = l.payout
    ∧ l.dropHead.drawer = l.drawer ∧ l.dropHead.intake = l.intake
    ∧ l.dropHead.envelope = l.envelope ∧ l.dropHead.journal.cells = l.journal.cells
    ∧ l.dropHead.loops = l.loops ∧ l.dropHead.drivers = l.drivers
    ∧ l.dropHead.lockdown = l.lockdown ∧ l.dropHead.ledgers = l.ledgers ∧ l.dropHead.bus = l.bus
    ∧ l.dropHead.free = l.free :=
  ⟨rfl, rfl, rfl, rfl, rfl, rfl, rfl, rfl, rfl, rfl, rfl, rfl, rfl, rfl, rfl, rfl⟩

@[simp] theorem Lane.leavePage_frame (l : Lane) :
    l.leavePage.clock = l.clock ∧ l.leavePage.sup = l.sup ∧ l.leavePage.settings = l.settings
    ∧ l.leavePage.cass = l.cass ∧ l.leavePage.transport = l.transport
    ∧ l.leavePage.payout = l.payout ∧ l.leavePage.drawer = l.drawer
    ∧ l.leavePage.intake = l.intake ∧ l.leavePage.envelope = l.envelope
    ∧ l.leavePage.journal.cells = l.journal.cells ∧ l.leavePage.loops = l.loops
    ∧ l.leavePage.drivers = l.drivers ∧ l.leavePage.lockdown = l.lockdown
    ∧ l.leavePage.ledgers = l.ledgers ∧ l.leavePage.bus = l.bus ∧ l.leavePage.free = l.free :=
  ⟨rfl, rfl, rfl, rfl, rfl, rfl, rfl, rfl, rfl, rfl, rfl, rfl, rfl, rfl, rfl, rfl⟩

@[simp] theorem Lane.pageOpened_frame (l : Lane) (page : Nat) :
    (l.pageOpened page).clock = l.clock ∧ (l.pageOpened page).sup = l.sup
    ∧ (l.pageOpened page).settings = l.settings ∧ (l.pageOpened page).cass = l.cass
    ∧ (l.pageOpened page).transport = l.transport ∧ (l.pageOpened page).payout = l.payout
    ∧ (l.pageOpened page).drawer = l.drawer ∧ (l.pageOpened page).intake = l.intake
    ∧ (l.pageOpened page).envelope = l.envelope
    ∧ (l.pageOpened page).journal.cells = l.journal.cells ∧ (l.pageOpened page).loops = l.loops
    ∧ (l.pageOpened page).drivers = l.drivers ∧ (l.pageOpened page).lockdown = l.lockdown
    ∧ (l.pageOpened page).ledgers = l.ledgers ∧ (l.pageOpened page).bus = l.bus
    ∧ (l.pageOpened page).free = l.free :=
  ⟨rfl, rfl, rfl, rfl, rfl, rfl, rfl, rfl, rfl, rfl, rfl, rfl, rfl, rfl, rfl, rfl⟩

@[simp] theorem Lane.setLoop_frame (l : Lane) (n : LoopNo) (e : Loop) :
    (l.setLoop n e).clock = l.clock ∧ (l.setLoop n e).sup = l.sup
    ∧ (l.setLoop n e).settings = l.settings ∧ (l.setLoop n e).cass = l.cass
    ∧ (l.setLoop n e).transport = l.transport ∧ (l.setLoop n e).payout = l.payout
    ∧ (l.setLoop n e).drawer = l.drawer ∧ (l.setLoop n e).intake = l.intake
    ∧ (l.setLoop n e).envelope = l.envelope ∧ (l.setLoop n e).journal = l.journal
    ∧ (l.setLoop n e).drivers = l.drivers ∧ (l.setLoop n e).lockdown = l.lockdown
    ∧ (l.setLoop n e).ledgers = l.ledgers ∧ (l.setLoop n e).bus = l.bus
    ∧ (l.setLoop n e).free = l.free :=
  ⟨rfl, rfl, rfl, rfl, rfl, rfl, rfl, rfl, rfl, rfl, rfl, rfl, rfl, rfl, rfl⟩

@[simp] theorem Lane.powerReported_frame (l : Lane) :
    l.powerReported.clock = l.clock ∧ l.powerReported.sup.service = l.sup.service
    ∧ l.powerReported.sup.lane = l.sup.lane ∧ l.powerReported.sup.laneCount = l.sup.laneCount
    ∧ l.powerReported.sup.causes = l.sup.causes ∧ l.powerReported.sup.scanning = l.sup.scanning
    ∧ l.powerReported.sup.homing = l.sup.homing ∧ l.powerReported.settings = l.settings
    ∧ l.powerReported.cass = l.cass ∧ l.powerReported.transport = l.transport
    ∧ l.powerReported.payout = l.payout ∧ l.powerReported.drawer = l.drawer
    ∧ l.powerReported.intake = l.intake ∧ l.powerReported.envelope = l.envelope
    ∧ l.powerReported.journal = l.journal ∧ l.powerReported.loops = l.loops
    ∧ l.powerReported.drivers = l.drivers ∧ l.powerReported.lockdown = l.lockdown
    ∧ l.powerReported.ledgers = l.ledgers ∧ l.powerReported.bus = l.bus
    ∧ l.powerReported.free = l.free :=
  ⟨rfl, rfl, rfl, rfl, rfl, rfl, rfl, rfl, rfl, rfl, rfl, rfl, rfl, rfl, rfl, rfl, rfl, rfl, rfl,
  rfl, rfl⟩

@[simp] theorem Lane.normalReport_frame (l : Lane) :
    l.normalReport.clock = l.clock ∧ l.normalReport.sup = l.sup
    ∧ l.normalReport.settings = l.settings ∧ l.normalReport.cass = l.cass
    ∧ l.normalReport.transport = l.transport ∧ l.normalReport.payout = l.payout
    ∧ l.normalReport.drawer = l.drawer ∧ l.normalReport.intake = l.intake
    ∧ l.normalReport.envelope = l.envelope ∧ l.normalReport.journal = l.journal
    ∧ l.normalReport.loops = l.loops ∧ l.normalReport.lockdown = l.lockdown
    ∧ l.normalReport.ledgers = l.ledgers ∧ l.normalReport.bus = l.bus
    ∧ l.normalReport.free = l.free :=
  ⟨rfl, rfl, rfl, rfl, rfl, rfl, rfl, rfl, rfl, rfl, rfl, rfl, rfl, rfl, rfl⟩

@[simp] theorem Lane.noReplay_frame (l : Lane) (st : JournalState) :
    (l.noReplay st).clock = l.clock ∧ (l.noReplay st).sup.service = l.sup.service
    ∧ (l.noReplay st).sup.lane = l.sup.lane ∧ (l.noReplay st).sup.laneCount = l.sup.laneCount
    ∧ (l.noReplay st).sup.scanning = l.sup.scanning ∧ (l.noReplay st).sup.homing = l.sup.homing
    ∧ (l.noReplay st).settings = l.settings ∧ (l.noReplay st).transport = l.transport
    ∧ (l.noReplay st).payout = l.payout ∧ (l.noReplay st).drawer = l.drawer
    ∧ (l.noReplay st).intake = l.intake ∧ (l.noReplay st).loops = l.loops
    ∧ (l.noReplay st).drivers = l.drivers ∧ (l.noReplay st).lockdown = l.lockdown
    ∧ (l.noReplay st).ledgers.cash = l.ledgers.cash ∧ (l.noReplay st).bus = l.bus
    ∧ (l.noReplay st).free = l.free :=
  ⟨rfl, rfl, rfl, rfl, rfl, rfl, rfl, rfl, rfl, rfl, rfl, rfl, rfl, rfl, rfl, rfl, rfl⟩

@[simp] theorem Lane.scanned_frame (l : Lane) :
    l.scanned.clock = l.clock ∧ l.scanned.sup = l.sup ∧ l.scanned.settings = l.settings
    ∧ l.scanned.transport = l.transport ∧ l.scanned.payout = l.payout
    ∧ l.scanned.drawer = l.drawer ∧ l.scanned.intake = l.intake ∧ l.scanned.loops = l.loops
    ∧ l.scanned.drivers = l.drivers ∧ l.scanned.lockdown = l.lockdown
    ∧ l.scanned.ledgers.cash = l.ledgers.cash ∧ l.scanned.bus = l.bus ∧ l.scanned.free = l.free :=
  ⟨rfl, rfl, rfl, rfl, rfl, rfl, rfl, rfl, rfl, rfl, rfl, rfl, rfl⟩

@[simp] theorem Lane.applyCassettes_frame (l : Lane) :
    l.applyCassettes.clock = l.clock ∧ l.applyCassettes.sup = l.sup
    ∧ l.applyCassettes.settings = l.settings ∧ l.applyCassettes.transport = l.transport
    ∧ l.applyCassettes.payout = l.payout ∧ l.applyCassettes.drawer = l.drawer
    ∧ l.applyCassettes.intake = l.intake ∧ l.applyCassettes.envelope = l.envelope
    ∧ l.applyCassettes.journal = l.journal ∧ l.applyCassettes.loops = l.loops
    ∧ l.applyCassettes.drivers = l.drivers ∧ l.applyCassettes.lockdown = l.lockdown
    ∧ l.applyCassettes.ledgers = l.ledgers ∧ l.applyCassettes.bus = l.bus
    ∧ l.applyCassettes.free = l.free :=
  ⟨rfl, rfl, rfl, rfl, rfl, rfl, rfl, rfl, rfl, rfl, rfl, rfl, rfl, rfl, rfl⟩

@[simp] theorem Lane.applyDrivers_frame (l : Lane) :
    l.applyDrivers.clock = l.clock ∧ l.applyDrivers.sup = l.sup
    ∧ l.applyDrivers.settings = l.settings ∧ l.applyDrivers.cass = l.cass
    ∧ l.applyDrivers.transport = l.transport ∧ l.applyDrivers.payout = l.payout
    ∧ l.applyDrivers.drawer = l.drawer ∧ l.applyDrivers.intake = l.intake
    ∧ l.applyDrivers.envelope = l.envelope ∧ l.applyDrivers.journal = l.journal
    ∧ l.applyDrivers.loops = l.loops ∧ l.applyDrivers.lockdown = l.lockdown
    ∧ l.applyDrivers.ledgers = l.ledgers ∧ l.applyDrivers.bus = l.bus
    ∧ l.applyDrivers.free = l.free :=
  ⟨rfl, rfl, rfl, rfl, rfl, rfl, rfl, rfl, rfl, rfl, rfl, rfl, rfl, rfl, rfl⟩

@[simp] theorem Lane.applyListen_frame (l : Lane) :
    l.applyListen.clock = l.clock ∧ l.applyListen.sup = l.sup
    ∧ l.applyListen.settings = l.settings ∧ l.applyListen.cass = l.cass
    ∧ l.applyListen.transport = l.transport ∧ l.applyListen.payout = l.payout
    ∧ l.applyListen.drawer = l.drawer ∧ l.applyListen.intake = l.intake
    ∧ l.applyListen.envelope = l.envelope ∧ l.applyListen.journal = l.journal
    ∧ l.applyListen.loops = l.loops ∧ l.applyListen.drivers = l.drivers
    ∧ l.applyListen.lockdown = l.lockdown ∧ l.applyListen.ledgers.cash = l.ledgers.cash
    ∧ l.applyListen.bus = l.bus ∧ l.applyListen.free = l.free :=
  ⟨rfl, rfl, rfl, rfl, rfl, rfl, rfl, rfl, rfl, rfl, rfl, rfl, rfl, rfl, rfl, rfl⟩

@[simp] theorem Lane.breakEnds_frame (l : Lane) :
    l.breakEnds.clock = l.clock ∧ l.breakEnds.sup = l.sup ∧ l.breakEnds.settings = l.settings
    ∧ l.breakEnds.cass = l.cass ∧ l.breakEnds.transport = l.transport
    ∧ l.breakEnds.payout = l.payout ∧ l.breakEnds.drawer = l.drawer
    ∧ l.breakEnds.intake = l.intake ∧ l.breakEnds.envelope = l.envelope
    ∧ l.breakEnds.journal = l.journal ∧ l.breakEnds.loops = l.loops
    ∧ l.breakEnds.drivers = l.drivers ∧ l.breakEnds.lockdown = l.lockdown
    ∧ l.breakEnds.ledgers = l.ledgers ∧ l.breakEnds.bus.mute = l.bus.mute
    ∧ l.breakEnds.free = l.free :=
  ⟨rfl, rfl, rfl, rfl, rfl, rfl, rfl, rfl, rfl, rfl, rfl, rfl, rfl, rfl, rfl, rfl⟩

@[simp] theorem Lane.setPresent_frame (l : Lane) (i : Position) (present : Bool) :
    (l.setPresent i present).clock = l.clock ∧ (l.setPresent i present).sup = l.sup
    ∧ (l.setPresent i present).settings = l.settings
    ∧ (l.setPresent i present).transport = l.transport
    ∧ (l.setPresent i present).payout = l.payout ∧ (l.setPresent i present).drawer = l.drawer
    ∧ (l.setPresent i present).intake = l.intake ∧ (l.setPresent i present).envelope = l.envelope
    ∧ (l.setPresent i present).journal = l.journal ∧ (l.setPresent i present).loops = l.loops
    ∧ (l.setPresent i present).drivers = l.drivers
    ∧ (l.setPresent i present).lockdown = l.lockdown
    ∧ (l.setPresent i present).ledgers = l.ledgers ∧ (l.setPresent i present).bus = l.bus
    ∧ (l.setPresent i present).free = l.free :=
  ⟨rfl, rfl, rfl, rfl, rfl, rfl, rfl, rfl, rfl, rfl, rfl, rfl, rfl, rfl, rfl⟩

@[simp] theorem Lane.withPath_frame (l : Lane) (rest : List PathNote) :
    (l.withPath rest).clock = l.clock ∧ (l.withPath rest).sup = l.sup
    ∧ (l.withPath rest).settings = l.settings ∧ (l.withPath rest).cass = l.cass
    ∧ (l.withPath rest).payout = l.payout ∧ (l.withPath rest).drawer = l.drawer
    ∧ (l.withPath rest).intake = l.intake ∧ (l.withPath rest).envelope = l.envelope
    ∧ (l.withPath rest).journal = l.journal ∧ (l.withPath rest).loops = l.loops
    ∧ (l.withPath rest).drivers = l.drivers ∧ (l.withPath rest).lockdown = l.lockdown
    ∧ (l.withPath rest).ledgers = l.ledgers ∧ (l.withPath rest).bus = l.bus
    ∧ (l.withPath rest).free = l.free :=
  ⟨rfl, rfl, rfl, rfl, rfl, rfl, rfl, rfl, rfl, rfl, rfl, rfl, rfl, rfl, rfl⟩

@[simp] theorem Lane.homingStep_frame (l : Lane) (st : HomingStep) :
    (l.homingStep st).clock = l.clock ∧ (l.homingStep st).sup.service = l.sup.service
    ∧ (l.homingStep st).sup.lane = l.sup.lane ∧ (l.homingStep st).sup.laneCount = l.sup.laneCount
    ∧ (l.homingStep st).sup.causes = l.sup.causes
    ∧ (l.homingStep st).sup.scanning = l.sup.scanning ∧ (l.homingStep st).settings = l.settings
    ∧ (l.homingStep st).cass = l.cass ∧ (l.homingStep st).transport = l.transport
    ∧ (l.homingStep st).payout = l.payout ∧ (l.homingStep st).drawer = l.drawer
    ∧ (l.homingStep st).intake = l.intake ∧ (l.homingStep st).envelope = l.envelope
    ∧ (l.homingStep st).journal = l.journal ∧ (l.homingStep st).loops = l.loops
    ∧ (l.homingStep st).drivers = l.drivers ∧ (l.homingStep st).lockdown = l.lockdown
    ∧ (l.homingStep st).ledgers = l.ledgers ∧ (l.homingStep st).bus = l.bus
    ∧ (l.homingStep st).free = l.free :=
  ⟨rfl, rfl, rfl, rfl, rfl, rfl, rfl, rfl, rfl, rfl, rfl, rfl, rfl, rfl, rfl, rfl, rfl, rfl, rfl,
  rfl⟩

@[simp] theorem Lane.strandStacker_frame (l : Lane) :
    l.strandStacker.clock = l.clock ∧ l.strandStacker.sup = l.sup
    ∧ l.strandStacker.settings = l.settings ∧ l.strandStacker.cass = l.cass
    ∧ l.strandStacker.payout = l.payout ∧ l.strandStacker.drawer = l.drawer
    ∧ l.strandStacker.intake = l.intake ∧ l.strandStacker.envelope = l.envelope
    ∧ l.strandStacker.journal = l.journal ∧ l.strandStacker.loops = l.loops
    ∧ l.strandStacker.drivers = l.drivers ∧ l.strandStacker.lockdown = l.lockdown
    ∧ l.strandStacker.ledgers = l.ledgers ∧ l.strandStacker.bus = l.bus :=
  ⟨rfl, rfl, rfl, rfl, rfl, rfl, rfl, rfl, rfl, rfl, rfl, rfl, rfl, rfl⟩

@[simp] theorem Lane.homingCount_frame (l : Lane) (f : Homing → Homing) :
    (l.homingCount f).clock = l.clock ∧ (l.homingCount f).sup.service = l.sup.service
    ∧ (l.homingCount f).sup.lane = l.sup.lane ∧ (l.homingCount f).sup.laneCount = l.sup.laneCount
    ∧ (l.homingCount f).sup.causes = l.sup.causes
    ∧ (l.homingCount f).sup.scanning = l.sup.scanning ∧ (l.homingCount f).settings = l.settings
    ∧ (l.homingCount f).cass = l.cass ∧ (l.homingCount f).transport = l.transport
    ∧ (l.homingCount f).payout = l.payout ∧ (l.homingCount f).drawer = l.drawer
    ∧ (l.homingCount f).intake = l.intake ∧ (l.homingCount f).envelope = l.envelope
    ∧ (l.homingCount f).journal = l.journal ∧ (l.homingCount f).loops = l.loops
    ∧ (l.homingCount f).drivers = l.drivers ∧ (l.homingCount f).lockdown = l.lockdown
    ∧ (l.homingCount f).ledgers = l.ledgers ∧ (l.homingCount f).bus = l.bus
    ∧ (l.homingCount f).free = l.free :=
  ⟨rfl, rfl, rfl, rfl, rfl, rfl, rfl, rfl, rfl, rfl, rfl, rfl, rfl, rfl, rfl, rfl, rfl, rfl, rfl,
  rfl⟩

@[simp] theorem Lane.moveSilence_frame (l : Lane) (before : Nat) :
    (l.moveSilence before).clock = l.clock ∧ (l.moveSilence before).sup = l.sup
    ∧ (l.moveSilence before).settings = l.settings ∧ (l.moveSilence before).cass = l.cass
    ∧ (l.moveSilence before).transport = l.transport ∧ (l.moveSilence before).payout = l.payout
    ∧ (l.moveSilence before).drawer = l.drawer ∧ (l.moveSilence before).intake = l.intake
    ∧ (l.moveSilence before).envelope = l.envelope ∧ (l.moveSilence before).journal = l.journal
    ∧ (l.moveSilence before).loops = l.loops ∧ (l.moveSilence before).drivers = l.drivers
    ∧ (l.moveSilence before).lockdown = l.lockdown
    ∧ (l.moveSilence before).ledgers.cash = l.ledgers.cash ∧ (l.moveSilence before).bus = l.bus
    ∧ (l.moveSilence before).free = l.free :=
  ⟨rfl, rfl, rfl, rfl, rfl, rfl, rfl, rfl, rfl, rfl, rfl, rfl, rfl, rfl, rfl, rfl⟩

@[simp] theorem Lane.beginHoming_frame (l : Lane) :
    l.beginHoming.clock = l.clock ∧ l.beginHoming.sup.service = l.sup.service
    ∧ l.beginHoming.sup.lane = l.sup.lane ∧ l.beginHoming.sup.laneCount = l.sup.laneCount
    ∧ l.beginHoming.settings = l.settings ∧ l.beginHoming.cass = l.cass
    ∧ l.beginHoming.transport = l.transport ∧ l.beginHoming.payout = l.payout
    ∧ l.beginHoming.drawer = l.drawer ∧ l.beginHoming.intake = l.intake
    ∧ l.beginHoming.envelope = l.envelope ∧ l.beginHoming.journal = l.journal
    ∧ l.beginHoming.loops = l.loops ∧ l.beginHoming.drivers = l.drivers
    ∧ l.beginHoming.lockdown = l.lockdown ∧ l.beginHoming.ledgers = l.ledgers
    ∧ l.beginHoming.bus = l.bus ∧ l.beginHoming.free = l.free :=
  ⟨rfl, rfl, rfl, rfl, rfl, rfl, rfl, rfl, rfl, rfl, rfl, rfl, rfl, rfl, rfl, rfl, rfl, rfl⟩

@[simp] theorem Lane.toEscrow_frame (l : Lane) (i : Intake) (n : EscrowNote) :
    (l.toEscrow i n).clock = l.clock ∧ (l.toEscrow i n).sup = l.sup
    ∧ (l.toEscrow i n).settings = l.settings ∧ (l.toEscrow i n).cass = l.cass
    ∧ (l.toEscrow i n).transport = l.transport ∧ (l.toEscrow i n).payout = l.payout
    ∧ (l.toEscrow i n).drawer = l.drawer ∧ (l.toEscrow i n).envelope = l.envelope
    ∧ (l.toEscrow i n).journal = l.journal ∧ (l.toEscrow i n).loops = l.loops
    ∧ (l.toEscrow i n).drivers = l.drivers ∧ (l.toEscrow i n).lockdown = l.lockdown
    ∧ (l.toEscrow i n).ledgers = l.ledgers ∧ (l.toEscrow i n).bus = l.bus
    ∧ (l.toEscrow i n).free = l.free :=
  ⟨rfl, rfl, rfl, rfl, rfl, rfl, rfl, rfl, rfl, rfl, rfl, rfl, rfl, rfl, rfl⟩

@[simp] theorem Lane.toReturns_frame (l : Lane) (i : Intake) :
    (l.toReturns i).clock = l.clock ∧ (l.toReturns i).sup = l.sup
    ∧ (l.toReturns i).settings = l.settings ∧ (l.toReturns i).cass = l.cass
    ∧ (l.toReturns i).payout = l.payout ∧ (l.toReturns i).drawer = l.drawer
    ∧ (l.toReturns i).envelope = l.envelope ∧ (l.toReturns i).journal = l.journal
    ∧ (l.toReturns i).loops = l.loops ∧ (l.toReturns i).drivers = l.drivers
    ∧ (l.toReturns i).lockdown = l.lockdown ∧ (l.toReturns i).ledgers = l.ledgers
    ∧ (l.toReturns i).bus = l.bus ∧ (l.toReturns i).free = l.free :=
  ⟨rfl, rfl, rfl, rfl, rfl, rfl, rfl, rfl, rfl, rfl, rfl, rfl, rfl, rfl⟩

@[simp] theorem Lane.entryReading_frame (l : Lane) (reports : Bool) :
    (l.entryReading reports).clock = l.clock ∧ (l.entryReading reports).sup = l.sup
    ∧ (l.entryReading reports).settings = l.settings ∧ (l.entryReading reports).cass = l.cass
    ∧ (l.entryReading reports).transport = l.transport
    ∧ (l.entryReading reports).payout = l.payout ∧ (l.entryReading reports).drawer = l.drawer
    ∧ (l.entryReading reports).intake = l.intake ∧ (l.entryReading reports).journal = l.journal
    ∧ (l.entryReading reports).loops = l.loops ∧ (l.entryReading reports).drivers = l.drivers
    ∧ (l.entryReading reports).lockdown = l.lockdown
    ∧ (l.entryReading reports).ledgers = l.ledgers ∧ (l.entryReading reports).bus = l.bus
    ∧ (l.entryReading reports).free = l.free :=
  ⟨rfl, rfl, rfl, rfl, rfl, rfl, rfl, rfl, rfl, rfl, rfl, rfl, rfl, rfl, rfl⟩

@[simp] theorem Lane.tick_frame (l : Lane) :
    l.tick.sup = l.sup ∧ l.tick.settings = l.settings ∧ l.tick.cass = l.cass
    ∧ l.tick.transport = l.transport ∧ l.tick.payout = l.payout ∧ l.tick.drawer = l.drawer
    ∧ l.tick.intake = l.intake ∧ l.tick.envelope = l.envelope ∧ l.tick.journal = l.journal
    ∧ l.tick.loops = l.loops ∧ l.tick.drivers = l.drivers ∧ l.tick.lockdown = l.lockdown
    ∧ l.tick.ledgers = l.ledgers ∧ l.tick.bus = l.bus ∧ l.tick.free = l.free :=
  ⟨rfl, rfl, rfl, rfl, rfl, rfl, rfl, rfl, rfl, rfl, rfl, rfl, rfl, rfl, rfl⟩

end Machine

end Sys2Proof
end

