-- ==== Sys2Proof/Laws/Frames.lean ====
section
/-! SUPPORT. Frames: what each operation of a block leaves unchanged, said once for each operation, so that
no later proof unfolds an operation to see that it does not touch a field. A lemma `X_frame` lists the
fields of the lane that `X` leaves as they are; a field it may change is not listed, but for the parts of
it that `X` keeps. -/

namespace Sys2Proof.Machine

@[simp] theorem Lane.send?_frame (l : Lane) (body : TxBody) (dest : Station) (tag : Tag) :
    (l.send? body dest tag).1.clock = l.clock ∧ (l.send? body dest tag).1.sup = l.sup
    ∧ (l.send? body dest tag).1.settings = l.settings ∧ (l.send? body dest tag).1.cass = l.cass
    ∧ (l.send? body dest tag).1.transport = l.transport
    ∧ (l.send? body dest tag).1.payout = l.payout ∧ (l.send? body dest tag).1.drawer = l.drawer
    ∧ (l.send? body dest tag).1.intake = l.intake
    ∧ (l.send? body dest tag).1.envelope = l.envelope
    ∧ (l.send? body dest tag).1.journal = l.journal ∧ (l.send? body dest tag).1.loops = l.loops
    ∧ (l.send? body dest tag).1.drivers = l.drivers
    ∧ (l.send? body dest tag).1.lockdown = l.lockdown
    ∧ (l.send? body dest tag).1.ledgers = l.ledgers
    ∧ (l.send? body dest tag).1.bus.mute = l.bus.mute ∧ (l.send? body dest tag).1.free = l.free := by
  unfold Lane.send?
  dsimp only
  simp [*]

@[simp] theorem Lane.send_frame (l : Lane) (body : TxBody) (dest : Station) (tag : Tag) :
    (l.send body dest tag).clock = l.clock ∧ (l.send body dest tag).sup = l.sup
    ∧ (l.send body dest tag).settings = l.settings ∧ (l.send body dest tag).cass = l.cass
    ∧ (l.send body dest tag).transport = l.transport ∧ (l.send body dest tag).payout = l.payout
    ∧ (l.send body dest tag).drawer = l.drawer ∧ (l.send body dest tag).intake = l.intake
    ∧ (l.send body dest tag).envelope = l.envelope ∧ (l.send body dest tag).journal = l.journal
    ∧ (l.send body dest tag).loops = l.loops ∧ (l.send body dest tag).drivers = l.drivers
    ∧ (l.send body dest tag).lockdown = l.lockdown ∧ (l.send body dest tag).ledgers = l.ledgers
    ∧ (l.send body dest tag).bus.mute = l.bus.mute ∧ (l.send body dest tag).free = l.free := by
  unfold Lane.send
  simp [*]

@[simp] theorem Lane.reply_frame (l : Lane) (h : Sender) (kind : Fin 32) (code : ReplyCode) (body :
    ReplyBody) :
    (l.reply h kind code body).clock = l.clock ∧ (l.reply h kind code body).sup = l.sup
    ∧ (l.reply h kind code body).settings = l.settings ∧ (l.reply h kind code body).cass = l.cass
    ∧ (l.reply h kind code body).transport = l.transport
    ∧ (l.reply h kind code body).payout = l.payout ∧ (l.reply h kind code body).drawer = l.drawer
    ∧ (l.reply h kind code body).intake = l.intake
    ∧ (l.reply h kind code body).envelope = l.envelope
    ∧ (l.reply h kind code body).journal = l.journal ∧ (l.reply h kind code body).loops = l.loops
    ∧ (l.reply h kind code body).drivers = l.drivers
    ∧ (l.reply h kind code body).lockdown = l.lockdown
    ∧ (l.reply h kind code body).ledgers = l.ledgers
    ∧ (l.reply h kind code body).bus.mute = l.bus.mute ∧ (l.reply h kind code body).free = l.free := by
  unfold Lane.reply
  simp [*]

@[simp] theorem Lane.noticeTo_frame (l : Lane) (console : Option Station) (tag : Tag) (n : Notice) :
    (l.noticeTo console tag n).clock = l.clock ∧ (l.noticeTo console tag n).sup = l.sup
    ∧ (l.noticeTo console tag n).settings = l.settings ∧ (l.noticeTo console tag n).cass = l.cass
    ∧ (l.noticeTo console tag n).transport = l.transport
    ∧ (l.noticeTo console tag n).payout = l.payout ∧ (l.noticeTo console tag n).drawer = l.drawer
    ∧ (l.noticeTo console tag n).intake = l.intake
    ∧ (l.noticeTo console tag n).envelope = l.envelope
    ∧ (l.noticeTo console tag n).journal = l.journal ∧ (l.noticeTo console tag n).loops = l.loops
    ∧ (l.noticeTo console tag n).drivers = l.drivers
    ∧ (l.noticeTo console tag n).lockdown = l.lockdown
    ∧ (l.noticeTo console tag n).ledgers = l.ledgers
    ∧ (l.noticeTo console tag n).bus.mute = l.bus.mute ∧ (l.noticeTo console tag n).free = l.free := by
  unfold Lane.noticeTo
  repeat' split
  all_goals simp [*]

@[simp] theorem Lane.noticeSupervisor_frame (l : Lane) (tag : Tag) (n : Notice) :
    (l.noticeSupervisor tag n).clock = l.clock ∧ (l.noticeSupervisor tag n).sup = l.sup
    ∧ (l.noticeSupervisor tag n).settings = l.settings ∧ (l.noticeSupervisor tag n).cass = l.cass
    ∧ (l.noticeSupervisor tag n).transport = l.transport
    ∧ (l.noticeSupervisor tag n).payout = l.payout ∧ (l.noticeSupervisor tag n).drawer = l.drawer
    ∧ (l.noticeSupervisor tag n).intake = l.intake
    ∧ (l.noticeSupervisor tag n).envelope = l.envelope
    ∧ (l.noticeSupervisor tag n).journal = l.journal ∧ (l.noticeSupervisor tag n).loops = l.loops
    ∧ (l.noticeSupervisor tag n).drivers = l.drivers
    ∧ (l.noticeSupervisor tag n).lockdown = l.lockdown
    ∧ (l.noticeSupervisor tag n).ledgers = l.ledgers
    ∧ (l.noticeSupervisor tag n).bus.mute = l.bus.mute ∧ (l.noticeSupervisor tag n).free = l.free := by
  unfold Lane.noticeSupervisor
  simp [*]

@[simp] theorem Lane.noticeBoth_frame (l : Lane) (n : Notice) :
    (l.noticeBoth n).clock = l.clock ∧ (l.noticeBoth n).sup = l.sup
    ∧ (l.noticeBoth n).settings = l.settings ∧ (l.noticeBoth n).cass = l.cass
    ∧ (l.noticeBoth n).transport = l.transport ∧ (l.noticeBoth n).payout = l.payout
    ∧ (l.noticeBoth n).drawer = l.drawer ∧ (l.noticeBoth n).intake = l.intake
    ∧ (l.noticeBoth n).envelope = l.envelope ∧ (l.noticeBoth n).journal = l.journal
    ∧ (l.noticeBoth n).loops = l.loops ∧ (l.noticeBoth n).drivers = l.drivers
    ∧ (l.noticeBoth n).lockdown = l.lockdown ∧ (l.noticeBoth n).ledgers = l.ledgers
    ∧ (l.noticeBoth n).bus.mute = l.bus.mute ∧ (l.noticeBoth n).free = l.free := by
  unfold Lane.noticeBoth
  repeat' split
  all_goals simp [*]

@[simp] theorem Lane.queueStatus_frame (l : Lane) :
    l.queueStatus.clock = l.clock ∧ l.queueStatus.sup = l.sup
    ∧ l.queueStatus.settings = l.settings ∧ l.queueStatus.cass = l.cass
    ∧ l.queueStatus.transport = l.transport ∧ l.queueStatus.payout = l.payout
    ∧ l.queueStatus.drawer = l.drawer ∧ l.queueStatus.intake = l.intake
    ∧ l.queueStatus.envelope = l.envelope ∧ l.queueStatus.journal = l.journal
    ∧ l.queueStatus.loops = l.loops ∧ l.queueStatus.drivers = l.drivers
    ∧ l.queueStatus.lockdown = l.lockdown ∧ l.queueStatus.ledgers.cash = l.ledgers.cash
    ∧ l.queueStatus.bus.mute = l.bus.mute ∧ l.queueStatus.free = l.free := by
  unfold Lane.queueStatus
  dsimp only
  repeat' split
  all_goals simp [*]

@[simp] theorem Lane.sendRelease_frame (l : Lane) (q : Quantity) (amount : Nat) (tag : Tag) :
    (l.sendRelease q amount tag).clock = l.clock ∧ (l.sendRelease q amount tag).sup = l.sup
    ∧ (l.sendRelease q amount tag).settings = l.settings
    ∧ (l.sendRelease q amount tag).cass = l.cass
    ∧ (l.sendRelease q amount tag).transport = l.transport
    ∧ (l.sendRelease q amount tag).payout = l.payout
    ∧ (l.sendRelease q amount tag).drawer = l.drawer
    ∧ (l.sendRelease q amount tag).intake = l.intake
    ∧ (l.sendRelease q amount tag).envelope = l.envelope
    ∧ (l.sendRelease q amount tag).journal = l.journal
    ∧ (l.sendRelease q amount tag).loops = l.loops
    ∧ (l.sendRelease q amount tag).drivers = l.drivers
    ∧ (l.sendRelease q amount tag).lockdown = l.lockdown
    ∧ (l.sendRelease q amount tag).ledgers = l.ledgers
    ∧ (l.sendRelease q amount tag).bus.mute = l.bus.mute
    ∧ (l.sendRelease q amount tag).free = l.free := by
  unfold Lane.sendRelease
  simp [*]

@[simp] theorem Lane.removeOnLine_frame (l : Lane) :
    l.removeOnLine.clock = l.clock ∧ l.removeOnLine.sup = l.sup
    ∧ l.removeOnLine.settings = l.settings ∧ l.removeOnLine.cass = l.cass
    ∧ l.removeOnLine.transport = l.transport ∧ l.removeOnLine.payout = l.payout
    ∧ l.removeOnLine.drawer = l.drawer ∧ l.removeOnLine.intake = l.intake
    ∧ l.removeOnLine.envelope = l.envelope ∧ l.removeOnLine.journal = l.journal
    ∧ l.removeOnLine.loops = l.loops ∧ l.removeOnLine.drivers = l.drivers
    ∧ l.removeOnLine.lockdown = l.lockdown ∧ l.removeOnLine.ledgers = l.ledgers
    ∧ l.removeOnLine.bus.mute = l.bus.mute ∧ l.removeOnLine.free = l.free := by
  unfold Lane.removeOnLine
  simp [*]

@[simp] theorem Lane.takeOffLine_frame (l : Lane) :
    l.takeOffLine.clock = l.clock ∧ l.takeOffLine.sup = l.sup
    ∧ l.takeOffLine.settings = l.settings ∧ l.takeOffLine.cass = l.cass
    ∧ l.takeOffLine.transport = l.transport ∧ l.takeOffLine.payout = l.payout
    ∧ l.takeOffLine.drawer = l.drawer ∧ l.takeOffLine.intake = l.intake
    ∧ l.takeOffLine.envelope = l.envelope ∧ l.takeOffLine.journal = l.journal
    ∧ l.takeOffLine.loops = l.loops ∧ l.takeOffLine.drivers = l.drivers
    ∧ l.takeOffLine.lockdown = l.lockdown ∧ l.takeOffLine.ledgers = l.ledgers
    ∧ l.takeOffLine.bus.mute = l.bus.mute ∧ l.takeOffLine.free = l.free := by
  unfold Lane.takeOffLine
  simp [*]

@[simp] theorem Lane.command_frame (l : Lane) (d : Driver) (on : Bool) :
    (l.command d on).clock = l.clock ∧ (l.command d on).sup = l.sup
    ∧ (l.command d on).settings = l.settings ∧ (l.command d on).cass = l.cass
    ∧ (l.command d on).transport = l.transport ∧ (l.command d on).payout = l.payout
    ∧ (l.command d on).drawer = l.drawer ∧ (l.command d on).intake = l.intake
    ∧ (l.command d on).envelope = l.envelope ∧ (l.command d on).journal = l.journal
    ∧ (l.command d on).loops = l.loops ∧ (l.command d on).lockdown = l.lockdown
    ∧ (l.command d on).ledgers = l.ledgers ∧ (l.command d on).bus = l.bus
    ∧ (l.command d on).free = l.free := by
  unfold Lane.command
  dsimp only
  simp [*]

@[simp] theorem Lane.switchLamp_frame (l : Lane) :
    l.switchLamp.clock = l.clock ∧ l.switchLamp.sup = l.sup ∧ l.switchLamp.settings = l.settings
    ∧ l.switchLamp.cass = l.cass ∧ l.switchLamp.transport = l.transport
    ∧ l.switchLamp.payout = l.payout ∧ l.switchLamp.drawer = l.drawer
    ∧ l.switchLamp.intake = l.intake ∧ l.switchLamp.envelope = l.envelope
    ∧ l.switchLamp.journal = l.journal ∧ l.switchLamp.loops = l.loops
    ∧ l.switchLamp.lockdown = l.lockdown ∧ l.switchLamp.ledgers = l.ledgers
    ∧ l.switchLamp.bus = l.bus ∧ l.switchLamp.free = l.free := by
  unfold Lane.switchLamp
  dsimp only
  repeat' split
  all_goals simp [*]

@[simp] theorem Lane.followLamp_frame (l : Lane) :
    l.followLamp.clock = l.clock ∧ l.followLamp.sup = l.sup ∧ l.followLamp.settings = l.settings
    ∧ l.followLamp.cass = l.cass ∧ l.followLamp.transport = l.transport
    ∧ l.followLamp.payout = l.payout ∧ l.followLamp.drawer = l.drawer
    ∧ l.followLamp.intake = l.intake ∧ l.followLamp.envelope = l.envelope
    ∧ l.followLamp.journal = l.journal ∧ l.followLamp.loops = l.loops
    ∧ l.followLamp.lockdown = l.lockdown ∧ l.followLamp.ledgers = l.ledgers
    ∧ l.followLamp.bus = l.bus ∧ l.followLamp.free = l.free := by
  unfold Lane.followLamp
  repeat' split
  all_goals simp [*]

@[simp] theorem Lane.followShutter_frame (l : Lane) :
    l.followShutter.clock = l.clock ∧ l.followShutter.sup = l.sup
    ∧ l.followShutter.settings = l.settings ∧ l.followShutter.cass = l.cass
    ∧ l.followShutter.transport = l.transport ∧ l.followShutter.payout = l.payout
    ∧ l.followShutter.drawer = l.drawer ∧ l.followShutter.intake = l.intake
    ∧ l.followShutter.envelope = l.envelope ∧ l.followShutter.journal = l.journal
    ∧ l.followShutter.loops = l.loops ∧ l.followShutter.lockdown = l.lockdown
    ∧ l.followShutter.ledgers = l.ledgers ∧ l.followShutter.bus = l.bus
    ∧ l.followShutter.free = l.free := by
  unfold Lane.followShutter
  simp [*]

@[simp] theorem Lane.followLane_frame (l : Lane) :
    l.followLane.clock = l.clock ∧ l.followLane.sup = l.sup ∧ l.followLane.settings = l.settings
    ∧ l.followLane.cass = l.cass ∧ l.followLane.transport = l.transport
    ∧ l.followLane.payout = l.payout ∧ l.followLane.drawer = l.drawer
    ∧ l.followLane.intake = l.intake ∧ l.followLane.envelope = l.envelope
    ∧ l.followLane.journal = l.journal ∧ l.followLane.loops = l.loops
    ∧ l.followLane.lockdown = l.lockdown ∧ l.followLane.ledgers = l.ledgers
    ∧ l.followLane.bus = l.bus ∧ l.followLane.free = l.free := by
  unfold Lane.followLane
  simp [*]

@[simp] theorem Lane.enterJournal_frame (l : Lane) (st : JournalState) :
    (l.enterJournal st).clock = l.clock ∧ (l.enterJournal st).sup = l.sup
    ∧ (l.enterJournal st).settings = l.settings ∧ (l.enterJournal st).cass = l.cass
    ∧ (l.enterJournal st).transport = l.transport ∧ (l.enterJournal st).payout = l.payout
    ∧ (l.enterJournal st).drawer = l.drawer ∧ (l.enterJournal st).intake = l.intake
    ∧ (l.enterJournal st).envelope = l.envelope
    ∧ (l.enterJournal st).journal.cells = l.journal.cells ∧ (l.enterJournal st).loops = l.loops
    ∧ (l.enterJournal st).drivers = l.drivers ∧ (l.enterJournal st).lockdown = l.lockdown
    ∧ (l.enterJournal st).ledgers = l.ledgers ∧ (l.enterJournal st).bus.mute = l.bus.mute
    ∧ (l.enterJournal st).free = l.free := by
  unfold Lane.enterJournal
  dsimp only
  repeat' split
  all_goals simp [*]

@[simp] theorem Lane.settleJournal_frame (l : Lane) :
    l.settleJournal.clock = l.clock ∧ l.settleJournal.sup = l.sup
    ∧ l.settleJournal.settings = l.settings ∧ l.settleJournal.cass = l.cass
    ∧ l.settleJournal.transport = l.transport ∧ l.settleJournal.payout = l.payout
    ∧ l.settleJournal.drawer = l.drawer ∧ l.settleJournal.intake = l.intake
    ∧ l.settleJournal.envelope = l.envelope ∧ l.settleJournal.journal.cells = l.journal.cells
    ∧ l.settleJournal.loops = l.loops ∧ l.settleJournal.drivers = l.drivers
    ∧ l.settleJournal.lockdown = l.lockdown ∧ l.settleJournal.ledgers = l.ledgers
    ∧ l.settleJournal.bus.mute = l.bus.mute ∧ l.settleJournal.free = l.free := by
  unfold Lane.settleJournal
  dsimp only
  repeat' split
  all_goals simp [*]

@[simp] theorem Lane.reserve_frame (l : Lane) (n : Nat) :
    (l.reserve n).clock = l.clock ∧ (l.reserve n).sup = l.sup
    ∧ (l.reserve n).settings = l.settings ∧ (l.reserve n).cass = l.cass
    ∧ (l.reserve n).transport = l.transport ∧ (l.reserve n).payout = l.payout
    ∧ (l.reserve n).drawer = l.drawer ∧ (l.reserve n).intake = l.intake
    ∧ (l.reserve n).envelope = l.envelope ∧ (l.reserve n).journal.cells = l.journal.cells
    ∧ (l.reserve n).loops = l.loops ∧ (l.reserve n).drivers = l.drivers
    ∧ (l.reserve n).lockdown = l.lockdown ∧ (l.reserve n).ledgers = l.ledgers
    ∧ (l.reserve n).bus.mute = l.bus.mute ∧ (l.reserve n).free = l.free := by
  unfold Lane.reserve
  dsimp only
  simp [*]

@[simp] theorem Lane.giveBack_frame (l : Lane) (n : Nat) :
    (l.giveBack n).clock = l.clock ∧ (l.giveBack n).sup = l.sup
    ∧ (l.giveBack n).settings = l.settings ∧ (l.giveBack n).cass = l.cass
    ∧ (l.giveBack n).transport = l.transport ∧ (l.giveBack n).payout = l.payout
    ∧ (l.giveBack n).drawer = l.drawer ∧ (l.giveBack n).intake = l.intake
    ∧ (l.giveBack n).envelope = l.envelope ∧ (l.giveBack n).journal.cells = l.journal.cells
    ∧ (l.giveBack n).loops = l.loops ∧ (l.giveBack n).drivers = l.drivers
    ∧ (l.giveBack n).lockdown = l.lockdown ∧ (l.giveBack n).ledgers = l.ledgers
    ∧ (l.giveBack n).bus.mute = l.bus.mute ∧ (l.giveBack n).free = l.free := by
  unfold Lane.giveBack
  dsimp only
  repeat' split
  all_goals simp [*]

@[simp] theorem Lane.joinReserved_frame (l : Lane) (r : Record) :
    (l.joinReserved r).clock = l.clock ∧ (l.joinReserved r).sup = l.sup
    ∧ (l.joinReserved r).settings = l.settings ∧ (l.joinReserved r).cass = l.cass
    ∧ (l.joinReserved r).transport = l.transport ∧ (l.joinReserved r).payout = l.payout
    ∧ (l.joinReserved r).drawer = l.drawer ∧ (l.joinReserved r).intake = l.intake
    ∧ (l.joinReserved r).envelope = l.envelope
    ∧ (l.joinReserved r).journal.cells = l.journal.cells ∧ (l.joinReserved r).loops = l.loops
    ∧ (l.joinReserved r).drivers = l.drivers ∧ (l.joinReserved r).lockdown = l.lockdown
    ∧ (l.joinReserved r).ledgers = l.ledgers ∧ (l.joinReserved r).bus = l.bus
    ∧ (l.joinReserved r).free = l.free := by
  unfold Lane.joinReserved
  simp [*]

@[simp] theorem Lane.joinUnreserved_frame (l : Lane) (r : Record) :
    (l.joinUnreserved r).clock = l.clock ∧ (l.joinUnreserved r).sup = l.sup
    ∧ (l.joinUnreserved r).settings = l.settings ∧ (l.joinUnreserved r).cass = l.cass
    ∧ (l.joinUnreserved r).transport = l.transport ∧ (l.joinUnreserved r).payout = l.payout
    ∧ (l.joinUnreserved r).drawer = l.drawer ∧ (l.joinUnreserved r).intake = l.intake
    ∧ (l.joinUnreserved r).envelope = l.envelope
    ∧ (l.joinUnreserved r).journal.cells = l.journal.cells ∧ (l.joinUnreserved r).loops = l.loops
    ∧ (l.joinUnreserved r).drivers = l.drivers ∧ (l.joinUnreserved r).lockdown = l.lockdown
    ∧ (l.joinUnreserved r).ledgers = l.ledgers ∧ (l.joinUnreserved r).bus = l.bus
    ∧ (l.joinUnreserved r).free = l.free := by
  unfold Lane.joinUnreserved
  dsimp only
  repeat' split
  all_goals simp [*]

@[simp] theorem Lane.sendMismatch_frame (l : Lane) :
    l.sendMismatch.clock = l.clock ∧ l.sendMismatch.sup = l.sup
    ∧ l.sendMismatch.settings = l.settings ∧ l.sendMismatch.cass = l.cass
    ∧ l.sendMismatch.transport = l.transport ∧ l.sendMismatch.payout = l.payout
    ∧ l.sendMismatch.drawer = l.drawer ∧ l.sendMismatch.intake = l.intake
    ∧ l.sendMismatch.envelope = l.envelope ∧ l.sendMismatch.journal = l.journal
    ∧ l.sendMismatch.loops = l.loops ∧ l.sendMismatch.drivers = l.drivers
    ∧ l.sendMismatch.lockdown = l.lockdown ∧ l.sendMismatch.ledgers = l.ledgers
    ∧ l.sendMismatch.bus.mute = l.bus.mute ∧ l.sendMismatch.free = l.free := by
  unfold Lane.sendMismatch
  simp [*]

@[simp] theorem Lane.setCassette_frame (l : Lane) (i : Position) (c : Cassette) :
    (l.setCassette i c).clock = l.clock ∧ (l.setCassette i c).sup = l.sup
    ∧ (l.setCassette i c).settings = l.settings ∧ (l.setCassette i c).transport = l.transport
    ∧ (l.setCassette i c).payout = l.payout ∧ (l.setCassette i c).drawer = l.drawer
    ∧ (l.setCassette i c).intake = l.intake ∧ (l.setCassette i c).envelope = l.envelope
    ∧ (l.setCassette i c).journal = l.journal ∧ (l.setCassette i c).loops = l.loops
    ∧ (l.setCassette i c).drivers = l.drivers ∧ (l.setCassette i c).lockdown = l.lockdown
    ∧ (l.setCassette i c).ledgers = l.ledgers ∧ (l.setCassette i c).bus.mute = l.bus.mute
    ∧ (l.setCassette i c).free = l.free := by
  unfold Lane.setCassette
  dsimp only
  repeat' split
  all_goals simp [*]

@[simp] theorem Lane.setBin_frame (l : Lane) (b : Bin) :
    (l.setBin b).clock = l.clock ∧ (l.setBin b).sup = l.sup ∧ (l.setBin b).settings = l.settings
    ∧ (l.setBin b).transport = l.transport ∧ (l.setBin b).payout = l.payout
    ∧ (l.setBin b).drawer = l.drawer ∧ (l.setBin b).intake = l.intake
    ∧ (l.setBin b).envelope = l.envelope ∧ (l.setBin b).journal = l.journal
    ∧ (l.setBin b).loops = l.loops ∧ (l.setBin b).drivers = l.drivers
    ∧ (l.setBin b).lockdown = l.lockdown ∧ (l.setBin b).ledgers = l.ledgers
    ∧ (l.setBin b).bus.mute = l.bus.mute ∧ (l.setBin b).free = l.free := by
  unfold Lane.setBin
  dsimp only
  repeat' split
  all_goals simp [*]

@[simp] theorem Lane.abandonClaim_frame (l : Lane) (q : Quantity) :
    (l.abandonClaim q).clock = l.clock ∧ (l.abandonClaim q).sup = l.sup
    ∧ (l.abandonClaim q).settings = l.settings ∧ (l.abandonClaim q).cass = l.cass
    ∧ (l.abandonClaim q).transport = l.transport ∧ (l.abandonClaim q).payout = l.payout
    ∧ (l.abandonClaim q).drawer = l.drawer ∧ (l.abandonClaim q).intake = l.intake
    ∧ (l.abandonClaim q).envelope = l.envelope ∧ (l.abandonClaim q).journal = l.journal
    ∧ (l.abandonClaim q).loops = l.loops ∧ (l.abandonClaim q).drivers = l.drivers
    ∧ (l.abandonClaim q).lockdown = l.lockdown ∧ (l.abandonClaim q).ledgers = l.ledgers
    ∧ (l.abandonClaim q).bus.mute = l.bus.mute ∧ (l.abandonClaim q).free = l.free := by
  unfold Lane.abandonClaim
  repeat' split
  all_goals simp [*]

@[simp] theorem Lane.endUndecided_frame (l : Lane) (p : Payout) (code : ReplyCode) :
    (l.endUndecided p code).clock = l.clock ∧ (l.endUndecided p code).sup = l.sup
    ∧ (l.endUndecided p code).settings = l.settings ∧ (l.endUndecided p code).cass = l.cass
    ∧ (l.endUndecided p code).transport = l.transport ∧ (l.endUndecided p code).drawer = l.drawer
    ∧ (l.endUndecided p code).intake = l.intake ∧ (l.endUndecided p code).envelope = l.envelope
    ∧ (l.endUndecided p code).journal.cells = l.journal.cells
    ∧ (l.endUndecided p code).loops = l.loops ∧ (l.endUndecided p code).drivers = l.drivers
    ∧ (l.endUndecided p code).lockdown = l.lockdown ∧ (l.endUndecided p code).ledgers = l.ledgers
    ∧ (l.endUndecided p code).bus.mute = l.bus.mute ∧ (l.endUndecided p code).free = l.free := by
  unfold Lane.endUndecided
  dsimp only
  simp [*]

@[simp] theorem Lane.dropUndecided_frame (l : Lane) (code : ReplyCode) :
    (l.dropUndecided code).clock = l.clock ∧ (l.dropUndecided code).sup = l.sup
    ∧ (l.dropUndecided code).settings = l.settings ∧ (l.dropUndecided code).cass = l.cass
    ∧ (l.dropUndecided code).transport = l.transport ∧ (l.dropUndecided code).drawer = l.drawer
    ∧ (l.dropUndecided code).intake = l.intake ∧ (l.dropUndecided code).envelope = l.envelope
    ∧ (l.dropUndecided code).journal.cells = l.journal.cells
    ∧ (l.dropUndecided code).loops = l.loops ∧ (l.dropUndecided code).drivers = l.drivers
    ∧ (l.dropUndecided code).lockdown = l.lockdown ∧ (l.dropUndecided code).ledgers = l.ledgers
    ∧ (l.dropUndecided code).bus.mute = l.bus.mute ∧ (l.dropUndecided code).free = l.free := by
  unfold Lane.dropUndecided
  repeat' split
  all_goals simp [*]

@[simp] theorem Lane.releasePlace_frame (l : Lane) (tag : Tag) :
    (l.releasePlace tag).clock = l.clock ∧ (l.releasePlace tag).sup = l.sup
    ∧ (l.releasePlace tag).settings = l.settings ∧ (l.releasePlace tag).cass = l.cass
    ∧ (l.releasePlace tag).transport = l.transport ∧ (l.releasePlace tag).payout = l.payout
    ∧ (l.releasePlace tag).drawer = l.drawer ∧ (l.releasePlace tag).intake = l.intake
    ∧ (l.releasePlace tag).envelope = l.envelope ∧ (l.releasePlace tag).journal = l.journal
    ∧ (l.releasePlace tag).loops = l.loops ∧ (l.releasePlace tag).drivers = l.drivers
    ∧ (l.releasePlace tag).lockdown = l.lockdown
    ∧ (l.releasePlace tag).ledgers.cash = l.ledgers.cash
    ∧ (l.releasePlace tag).bus.mute = l.bus.mute ∧ (l.releasePlace tag).free = l.free := by
  unfold Lane.releasePlace
  dsimp only
  simp [*]

@[simp] theorem Lane.cancelRecord_frame (l : Lane) (r : EnvelopeRecord) (code : ReplyCode) (fault :
    Bool) :
    (l.cancelRecord r code fault).clock = l.clock ∧ (l.cancelRecord r code fault).sup = l.sup
    ∧ (l.cancelRecord r code fault).settings = l.settings
    ∧ (l.cancelRecord r code fault).cass = l.cass
    ∧ (l.cancelRecord r code fault).transport = l.transport
    ∧ (l.cancelRecord r code fault).payout = l.payout
    ∧ (l.cancelRecord r code fault).drawer = l.drawer
    ∧ (l.cancelRecord r code fault).intake = l.intake
    ∧ (l.cancelRecord r code fault).journal.cells = l.journal.cells
    ∧ (l.cancelRecord r code fault).loops = l.loops
    ∧ (l.cancelRecord r code fault).drivers = l.drivers
    ∧ (l.cancelRecord r code fault).lockdown = l.lockdown
    ∧ (l.cancelRecord r code fault).ledgers = l.ledgers
    ∧ (l.cancelRecord r code fault).bus.mute = l.bus.mute
    ∧ (l.cancelRecord r code fault).free = l.free := by
  unfold Lane.cancelRecord
  dsimp only
  repeat' split
  all_goals simp [*]

@[simp] theorem Lane.closeSlot_frame (l : Lane) (r : EnvelopeRecord) (outcome : EnvelopeOutcome)
    (cause : Option CancelCause) (path : PathState) :
    (l.closeSlot r outcome cause path).clock = l.clock
    ∧ (l.closeSlot r outcome cause path).sup = l.sup
    ∧ (l.closeSlot r outcome cause path).settings = l.settings
    ∧ (l.closeSlot r outcome cause path).cass = l.cass
    ∧ (l.closeSlot r outcome cause path).transport = l.transport
    ∧ (l.closeSlot r outcome cause path).payout = l.payout
    ∧ (l.closeSlot r outcome cause path).drawer = l.drawer
    ∧ (l.closeSlot r outcome cause path).intake = l.intake
    ∧ (l.closeSlot r outcome cause path).journal.cells = l.journal.cells
    ∧ (l.closeSlot r outcome cause path).loops = l.loops
    ∧ (l.closeSlot r outcome cause path).lockdown = l.lockdown
    ∧ (l.closeSlot r outcome cause path).ledgers.cash = l.ledgers.cash
    ∧ (l.closeSlot r outcome cause path).bus.mute = l.bus.mute
    ∧ (l.closeSlot r outcome cause path).free = l.free := by
  unfold Lane.closeSlot
  dsimp only
  simp [*]

@[simp] theorem Lane.cancelEnvelope_frame (l : Lane) (code : ReplyCode) (cause : CancelCause) :
    (l.cancelEnvelope code cause).clock = l.clock ∧ (l.cancelEnvelope code cause).sup = l.sup
    ∧ (l.cancelEnvelope code cause).settings = l.settings
    ∧ (l.cancelEnvelope code cause).cass = l.cass
    ∧ (l.cancelEnvelope code cause).transport = l.transport
    ∧ (l.cancelEnvelope code cause).payout = l.payout
    ∧ (l.cancelEnvelope code cause).drawer = l.drawer
    ∧ (l.cancelEnvelope code cause).intake = l.intake
    ∧ (l.cancelEnvelope code cause).journal.cells = l.journal.cells
    ∧ (l.cancelEnvelope code cause).loops = l.loops
    ∧ (l.cancelEnvelope code cause).lockdown = l.lockdown
    ∧ (l.cancelEnvelope code cause).ledgers.cash = l.ledgers.cash
    ∧ (l.cancelEnvelope code cause).bus.mute = l.bus.mute
    ∧ (l.cancelEnvelope code cause).free = l.free := by
  unfold Lane.cancelEnvelope
  repeat' split
  all_goals simp [*]

@[simp] theorem Lane.faultEnvelope_frame (l : Lane) :
    l.faultEnvelope.clock = l.clock ∧ l.faultEnvelope.sup = l.sup
    ∧ l.faultEnvelope.settings = l.settings ∧ l.faultEnvelope.cass = l.cass
    ∧ l.faultEnvelope.transport = l.transport ∧ l.faultEnvelope.payout = l.payout
    ∧ l.faultEnvelope.drawer = l.drawer ∧ l.faultEnvelope.intake = l.intake
    ∧ l.faultEnvelope.journal.cells = l.journal.cells ∧ l.faultEnvelope.loops = l.loops
    ∧ l.faultEnvelope.lockdown = l.lockdown ∧ l.faultEnvelope.ledgers.cash = l.ledgers.cash
    ∧ l.faultEnvelope.bus.mute = l.bus.mute ∧ l.faultEnvelope.free = l.free := by
  unfold Lane.faultEnvelope
  dsimp only
  repeat' split
  all_goals simp [*]

@[simp] theorem Lane.leaveOpen_frame (l : Lane) :
    l.leaveOpen.clock = l.clock ∧ l.leaveOpen.sup.lane = l.sup.lane
    ∧ l.leaveOpen.sup.laneCount = l.sup.laneCount ∧ l.leaveOpen.sup.causes = l.sup.causes
    ∧ l.leaveOpen.sup.scanning = l.sup.scanning ∧ l.leaveOpen.sup.homing = l.sup.homing
    ∧ l.leaveOpen.settings = l.settings ∧ l.leaveOpen.cass = l.cass
    ∧ l.leaveOpen.transport = l.transport ∧ l.leaveOpen.drawer = l.drawer
    ∧ l.leaveOpen.intake = l.intake ∧ l.leaveOpen.journal.cells = l.journal.cells
    ∧ l.leaveOpen.loops = l.loops ∧ l.leaveOpen.lockdown = l.lockdown
    ∧ l.leaveOpen.ledgers.cash = l.ledgers.cash ∧ l.leaveOpen.bus.mute = l.bus.mute
    ∧ l.leaveOpen.free = l.free := by
  unfold Lane.leaveOpen
  dsimp only
  repeat' split
  all_goals simp [*]

@[simp] theorem Lane.raise_frame (l : Lane) (f : Causes → Causes) :
    (l.raise f).clock = l.clock ∧ (l.raise f).sup.lane = l.sup.lane
    ∧ (l.raise f).sup.laneCount = l.sup.laneCount ∧ (l.raise f).sup.scanning = l.sup.scanning
    ∧ (l.raise f).sup.homing = l.sup.homing ∧ (l.raise f).settings = l.settings
    ∧ (l.raise f).cass = l.cass ∧ (l.raise f).transport = l.transport
    ∧ (l.raise f).drawer = l.drawer ∧ (l.raise f).intake = l.intake
    ∧ (l.raise f).journal.cells = l.journal.cells ∧ (l.raise f).loops = l.loops
    ∧ (l.raise f).lockdown = l.lockdown ∧ (l.raise f).ledgers.cash = l.ledgers.cash
    ∧ (l.raise f).bus.mute = l.bus.mute ∧ (l.raise f).free = l.free := by
  unfold Lane.raise
  dsimp only
  simp [*]

@[simp] theorem Lane.drawerHomed_frame (l : Lane) :
    l.drawerHomed.clock = l.clock ∧ l.drawerHomed.sup.service = l.sup.service
    ∧ l.drawerHomed.sup.lane = l.sup.lane ∧ l.drawerHomed.sup.laneCount = l.sup.laneCount
    ∧ l.drawerHomed.sup.causes = l.sup.causes ∧ l.drawerHomed.sup.scanning = l.sup.scanning
    ∧ l.drawerHomed.settings = l.settings ∧ l.drawerHomed.cass = l.cass
    ∧ l.drawerHomed.transport = l.transport ∧ l.drawerHomed.payout = l.payout
    ∧ l.drawerHomed.drawer = l.drawer ∧ l.drawerHomed.intake = l.intake
    ∧ l.drawerHomed.envelope = l.envelope ∧ l.drawerHomed.journal = l.journal
    ∧ l.drawerHomed.loops = l.loops ∧ l.drawerHomed.drivers = l.drivers
    ∧ l.drawerHomed.lockdown = l.lockdown ∧ l.drawerHomed.ledgers = l.ledgers
    ∧ l.drawerHomed.bus = l.bus ∧ l.drawerHomed.free = l.free := by
  unfold Lane.drawerHomed
  repeat' split
  all_goals simp [*]

@[simp] theorem Lane.startRun_frame (l : Lane) (m : Movement) :
    (l.startRun m).clock = l.clock ∧ (l.startRun m).sup = l.sup
    ∧ (l.startRun m).settings = l.settings ∧ (l.startRun m).cass = l.cass
    ∧ (l.startRun m).transport = l.transport ∧ (l.startRun m).payout = l.payout
    ∧ (l.startRun m).intake = l.intake ∧ (l.startRun m).envelope = l.envelope
    ∧ (l.startRun m).journal = l.journal ∧ (l.startRun m).loops = l.loops
    ∧ (l.startRun m).lockdown = l.lockdown ∧ (l.startRun m).ledgers = l.ledgers
    ∧ (l.startRun m).bus = l.bus ∧ (l.startRun m).free = l.free := by
  unfold Lane.startRun
  dsimp only
  simp [*]

@[simp] theorem Lane.endRun_frame (l : Lane) (m : Movement) :
    (l.endRun m).clock = l.clock ∧ (l.endRun m).sup = l.sup ∧ (l.endRun m).settings = l.settings
    ∧ (l.endRun m).cass = l.cass ∧ (l.endRun m).transport = l.transport
    ∧ (l.endRun m).payout = l.payout ∧ (l.endRun m).intake = l.intake
    ∧ (l.endRun m).envelope = l.envelope ∧ (l.endRun m).journal = l.journal
    ∧ (l.endRun m).loops = l.loops ∧ (l.endRun m).lockdown = l.lockdown
    ∧ (l.endRun m).ledgers = l.ledgers ∧ (l.endRun m).bus = l.bus ∧ (l.endRun m).free = l.free := by
  unfold Lane.endRun
  dsimp only
  simp [*]

@[simp] theorem Lane.present_frame (l : Lane) :
    l.present.clock = l.clock ∧ l.present.sup = l.sup ∧ l.present.settings = l.settings
    ∧ l.present.cass = l.cass ∧ l.present.payout = l.payout ∧ l.present.intake = l.intake
    ∧ l.present.envelope = l.envelope ∧ l.present.journal = l.journal ∧ l.present.loops = l.loops
    ∧ l.present.lockdown = l.lockdown ∧ l.present.ledgers = l.ledgers ∧ l.present.bus = l.bus
    ∧ l.present.free = l.free := by
  unfold Lane.present
  dsimp only
  repeat' split
  all_goals simp [*]

@[simp] theorem Lane.receive_frame (l : Lane) :
    l.receive.clock = l.clock ∧ l.receive.sup = l.sup ∧ l.receive.settings = l.settings
    ∧ l.receive.cass = l.cass ∧ l.receive.transport = l.transport ∧ l.receive.payout = l.payout
    ∧ l.receive.intake = l.intake ∧ l.receive.envelope = l.envelope
    ∧ l.receive.journal = l.journal ∧ l.receive.loops = l.loops ∧ l.receive.lockdown = l.lockdown
    ∧ l.receive.ledgers = l.ledgers ∧ l.receive.bus = l.bus ∧ l.receive.free = l.free := by
  unfold Lane.receive
  dsimp only
  simp [*]

@[simp] theorem Lane.releaseDrawer_frame (l : Lane) (k : OwnerKind) :
    (l.releaseDrawer k).clock = l.clock ∧ (l.releaseDrawer k).sup = l.sup
    ∧ (l.releaseDrawer k).settings = l.settings ∧ (l.releaseDrawer k).cass = l.cass
    ∧ (l.releaseDrawer k).transport = l.transport ∧ (l.releaseDrawer k).payout = l.payout
    ∧ (l.releaseDrawer k).drawer.movement = l.drawer.movement
    ∧ (l.releaseDrawer k).drawer.position = l.drawer.position
    ∧ (l.releaseDrawer k).intake = l.intake ∧ (l.releaseDrawer k).envelope = l.envelope
    ∧ (l.releaseDrawer k).journal = l.journal ∧ (l.releaseDrawer k).loops = l.loops
    ∧ (l.releaseDrawer k).drivers = l.drivers ∧ (l.releaseDrawer k).lockdown = l.lockdown
    ∧ (l.releaseDrawer k).ledgers = l.ledgers ∧ (l.releaseDrawer k).bus = l.bus
    ∧ (l.releaseDrawer k).free = l.free := by
  unfold Lane.releaseDrawer
  dsimp only
  repeat' split
  all_goals simp [*]

@[simp] theorem Lane.startFilters_frame (l : Lane) :
    l.startFilters.clock = l.clock ∧ l.startFilters.sup = l.sup
    ∧ l.startFilters.settings = l.settings ∧ l.startFilters.cass = l.cass
    ∧ l.startFilters.transport = l.transport ∧ l.startFilters.payout = l.payout
    ∧ l.startFilters.drawer.movement = l.drawer.movement
    ∧ l.startFilters.drawer.position = l.drawer.position ∧ l.startFilters.intake = l.intake
    ∧ l.startFilters.envelope = l.envelope ∧ l.startFilters.journal = l.journal
    ∧ l.startFilters.loops = l.loops ∧ l.startFilters.drivers = l.drivers
    ∧ l.startFilters.lockdown = l.lockdown ∧ l.startFilters.ledgers = l.ledgers
    ∧ l.startFilters.bus = l.bus ∧ l.startFilters.free = l.free := by
  unfold Lane.startFilters
  dsimp only
  repeat' split
  all_goals simp [*]

@[simp] theorem Lane.intakeEnd_frame (l : Lane) (i : Intake) (r : IntakeResult) :
    (l.intakeEnd i r).clock = l.clock ∧ (l.intakeEnd i r).sup = l.sup
    ∧ (l.intakeEnd i r).settings = l.settings ∧ (l.intakeEnd i r).cass = l.cass
    ∧ (l.intakeEnd i r).transport = l.transport ∧ (l.intakeEnd i r).payout = l.payout
    ∧ (l.intakeEnd i r).drawer = l.drawer ∧ (l.intakeEnd i r).intake = l.intake
    ∧ (l.intakeEnd i r).envelope = l.envelope ∧ (l.intakeEnd i r).journal = l.journal
    ∧ (l.intakeEnd i r).loops = l.loops ∧ (l.intakeEnd i r).drivers = l.drivers
    ∧ (l.intakeEnd i r).lockdown = l.lockdown ∧ (l.intakeEnd i r).ledgers = l.ledgers
    ∧ (l.intakeEnd i r).bus.mute = l.bus.mute ∧ (l.intakeEnd i r).free = l.free := by
  unfold Lane.intakeEnd
  repeat' split
  all_goals simp [*]

@[simp] theorem Lane.endIntake_frame (l : Lane) (i : Intake) :
    (l.endIntake i).clock = l.clock ∧ (l.endIntake i).sup = l.sup
    ∧ (l.endIntake i).settings = l.settings ∧ (l.endIntake i).cass = l.cass
    ∧ (l.endIntake i).transport = l.transport ∧ (l.endIntake i).payout = l.payout
    ∧ (l.endIntake i).drawer = l.drawer ∧ (l.endIntake i).envelope = l.envelope
    ∧ (l.endIntake i).journal.cells = l.journal.cells ∧ (l.endIntake i).loops = l.loops
    ∧ (l.endIntake i).drivers = l.drivers ∧ (l.endIntake i).lockdown = l.lockdown
    ∧ (l.endIntake i).ledgers = l.ledgers ∧ (l.endIntake i).bus.mute = l.bus.mute
    ∧ (l.endIntake i).free = l.free := by
  unfold Lane.endIntake
  simp [*]

@[simp] theorem Lane.joinIntake_frame (l : Lane) (i : Intake) (r : Record) :
    (l.joinIntake i r).1.clock = l.clock ∧ (l.joinIntake i r).1.sup = l.sup
    ∧ (l.joinIntake i r).1.settings = l.settings ∧ (l.joinIntake i r).1.cass = l.cass
    ∧ (l.joinIntake i r).1.transport = l.transport ∧ (l.joinIntake i r).1.payout = l.payout
    ∧ (l.joinIntake i r).1.drawer = l.drawer ∧ (l.joinIntake i r).1.envelope = l.envelope
    ∧ (l.joinIntake i r).1.journal.cells = l.journal.cells ∧ (l.joinIntake i r).1.loops = l.loops
    ∧ (l.joinIntake i r).1.drivers = l.drivers ∧ (l.joinIntake i r).1.lockdown = l.lockdown
    ∧ (l.joinIntake i r).1.ledgers = l.ledgers ∧ (l.joinIntake i r).1.bus = l.bus
    ∧ (l.joinIntake i r).1.free = l.free := by
  unfold Lane.joinIntake
  dsimp only
  simp [*]

@[simp] theorem Lane.captureIntake_frame (l : Lane) (i : Intake) (reason : CaptureReason) (n : Nat)
    :
    (l.captureIntake i reason n).1.clock = l.clock ∧ (l.captureIntake i reason n).1.sup = l.sup
    ∧ (l.captureIntake i reason n).1.settings = l.settings
    ∧ (l.captureIntake i reason n).1.cass = l.cass
    ∧ (l.captureIntake i reason n).1.transport = l.transport
    ∧ (l.captureIntake i reason n).1.payout = l.payout
    ∧ (l.captureIntake i reason n).1.drawer = l.drawer
    ∧ (l.captureIntake i reason n).1.envelope = l.envelope
    ∧ (l.captureIntake i reason n).1.journal.cells = l.journal.cells
    ∧ (l.captureIntake i reason n).1.loops = l.loops
    ∧ (l.captureIntake i reason n).1.drivers = l.drivers
    ∧ (l.captureIntake i reason n).1.lockdown = l.lockdown
    ∧ (l.captureIntake i reason n).1.ledgers = l.ledgers
    ∧ (l.captureIntake i reason n).1.bus = l.bus ∧ (l.captureIntake i reason n).1.free = l.free := by
  unfold Lane.captureIntake
  repeat' split
  all_goals simp [*]

@[simp] theorem Lane.heldOrEnd_frame (l : Lane) (i : Intake) :
    (l.heldOrEnd i).clock = l.clock ∧ (l.heldOrEnd i).sup = l.sup
    ∧ (l.heldOrEnd i).settings = l.settings ∧ (l.heldOrEnd i).cass = l.cass
    ∧ (l.heldOrEnd i).transport = l.transport ∧ (l.heldOrEnd i).payout = l.payout
    ∧ (l.heldOrEnd i).drawer = l.drawer ∧ (l.heldOrEnd i).envelope = l.envelope
    ∧ (l.heldOrEnd i).journal.cells = l.journal.cells ∧ (l.heldOrEnd i).loops = l.loops
    ∧ (l.heldOrEnd i).drivers = l.drivers ∧ (l.heldOrEnd i).lockdown = l.lockdown
    ∧ (l.heldOrEnd i).ledgers = l.ledgers ∧ (l.heldOrEnd i).bus.mute = l.bus.mute
    ∧ (l.heldOrEnd i).free = l.free := by
  unfold Lane.heldOrEnd
  dsimp only
  repeat' split
  all_goals simp [*]

@[simp] theorem Lane.askReturn_frame (l : Lane) (i : Intake) :
    (l.askReturn i).clock = l.clock ∧ (l.askReturn i).sup = l.sup
    ∧ (l.askReturn i).settings = l.settings ∧ (l.askReturn i).cass = l.cass
    ∧ (l.askReturn i).payout = l.payout ∧ (l.askReturn i).envelope = l.envelope
    ∧ (l.askReturn i).journal = l.journal ∧ (l.askReturn i).loops = l.loops
    ∧ (l.askReturn i).lockdown = l.lockdown ∧ (l.askReturn i).ledgers = l.ledgers
    ∧ (l.askReturn i).bus = l.bus ∧ (l.askReturn i).free = l.free := by
  unfold Lane.askReturn
  repeat' split
  all_goals simp [*]

@[simp] theorem Lane.askGiveback_frame (l : Lane) (i : Intake) :
    (l.askGiveback i).clock = l.clock ∧ (l.askGiveback i).sup = l.sup
    ∧ (l.askGiveback i).settings = l.settings ∧ (l.askGiveback i).cass = l.cass
    ∧ (l.askGiveback i).payout = l.payout ∧ (l.askGiveback i).envelope = l.envelope
    ∧ (l.askGiveback i).journal = l.journal ∧ (l.askGiveback i).loops = l.loops
    ∧ (l.askGiveback i).lockdown = l.lockdown ∧ (l.askGiveback i).ledgers = l.ledgers
    ∧ (l.askGiveback i).bus = l.bus ∧ (l.askGiveback i).free = l.free := by
  unfold Lane.askGiveback
  dsimp only
  repeat' split
  all_goals simp [*]

@[simp] theorem Lane.retryDeferred_frame (l : Lane) :
    l.retryDeferred.clock = l.clock ∧ l.retryDeferred.sup = l.sup
    ∧ l.retryDeferred.settings = l.settings ∧ l.retryDeferred.cass = l.cass
    ∧ l.retryDeferred.payout = l.payout ∧ l.retryDeferred.envelope = l.envelope
    ∧ l.retryDeferred.journal = l.journal ∧ l.retryDeferred.loops = l.loops
    ∧ l.retryDeferred.lockdown = l.lockdown ∧ l.retryDeferred.ledgers = l.ledgers
    ∧ l.retryDeferred.bus = l.bus ∧ l.retryDeferred.free = l.free := by
  unfold Lane.retryDeferred
  repeat' split
  all_goals simp [*]

@[simp] theorem Lane.endFeeding_frame (l : Lane) (i : Intake) (trayLeft : Bool) :
    (l.endFeeding i trayLeft).clock = l.clock ∧ (l.endFeeding i trayLeft).sup = l.sup
    ∧ (l.endFeeding i trayLeft).settings = l.settings ∧ (l.endFeeding i trayLeft).cass = l.cass
    ∧ (l.endFeeding i trayLeft).payout = l.payout
    ∧ (l.endFeeding i trayLeft).envelope = l.envelope
    ∧ (l.endFeeding i trayLeft).journal.cells = l.journal.cells
    ∧ (l.endFeeding i trayLeft).loops = l.loops ∧ (l.endFeeding i trayLeft).lockdown = l.lockdown
    ∧ (l.endFeeding i trayLeft).ledgers = l.ledgers
    ∧ (l.endFeeding i trayLeft).bus.mute = l.bus.mute ∧ (l.endFeeding i trayLeft).free = l.free := by
  unfold Lane.endFeeding
  dsimp only
  repeat' split
  all_goals simp [*]

@[simp] theorem Lane.givebackEnd_frame (l : Lane) (i : Intake) (o : EscrowOutcome) (counted
    unaccounted : Nat) :
    (l.givebackEnd i o counted unaccounted).clock = l.clock
    ∧ (l.givebackEnd i o counted unaccounted).sup = l.sup
    ∧ (l.givebackEnd i o counted unaccounted).settings = l.settings
    ∧ (l.givebackEnd i o counted unaccounted).cass = l.cass
    ∧ (l.givebackEnd i o counted unaccounted).transport = l.transport
    ∧ (l.givebackEnd i o counted unaccounted).payout = l.payout
    ∧ (l.givebackEnd i o counted unaccounted).drawer = l.drawer
    ∧ (l.givebackEnd i o counted unaccounted).intake = l.intake
    ∧ (l.givebackEnd i o counted unaccounted).envelope = l.envelope
    ∧ (l.givebackEnd i o counted unaccounted).journal = l.journal
    ∧ (l.givebackEnd i o counted unaccounted).loops = l.loops
    ∧ (l.givebackEnd i o counted unaccounted).drivers = l.drivers
    ∧ (l.givebackEnd i o counted unaccounted).lockdown = l.lockdown
    ∧ (l.givebackEnd i o counted unaccounted).ledgers = l.ledgers
    ∧ (l.givebackEnd i o counted unaccounted).bus.mute = l.bus.mute
    ∧ (l.givebackEnd i o counted unaccounted).free = l.free := by
  unfold Lane.givebackEnd
  simp [*]

@[simp] theorem Lane.stopReport_frame (l : Lane) (i : Intake) (counted : Nat) :
    (l.stopReport i counted).1.clock = l.clock ∧ (l.stopReport i counted).1.sup = l.sup
    ∧ (l.stopReport i counted).1.settings = l.settings ∧ (l.stopReport i counted).1.cass = l.cass
    ∧ (l.stopReport i counted).1.transport = l.transport
    ∧ (l.stopReport i counted).1.payout = l.payout ∧ (l.stopReport i counted).1.drawer = l.drawer
    ∧ (l.stopReport i counted).1.envelope = l.envelope
    ∧ (l.stopReport i counted).1.journal.cells = l.journal.cells
    ∧ (l.stopReport i counted).1.loops = l.loops ∧ (l.stopReport i counted).1.drivers = l.drivers
    ∧ (l.stopReport i counted).1.lockdown = l.lockdown
    ∧ (l.stopReport i counted).1.ledgers = l.ledgers
    ∧ (l.stopReport i counted).1.bus.mute = l.bus.mute ∧ (l.stopReport i counted).1.free = l.free := by
  unfold Lane.stopReport
  dsimp only
  repeat' split
  all_goals simp [*]

@[simp] theorem Lane.stopIntake_frame (l : Lane) (i : Intake) (counted : Nat) :
    (l.stopIntake i counted).clock = l.clock ∧ (l.stopIntake i counted).sup = l.sup
    ∧ (l.stopIntake i counted).settings = l.settings ∧ (l.stopIntake i counted).cass = l.cass
    ∧ (l.stopIntake i counted).transport = l.transport
    ∧ (l.stopIntake i counted).payout = l.payout
    ∧ (l.stopIntake i counted).drawer.movement = l.drawer.movement
    ∧ (l.stopIntake i counted).drawer.position = l.drawer.position
    ∧ (l.stopIntake i counted).envelope = l.envelope
    ∧ (l.stopIntake i counted).journal.cells = l.journal.cells
    ∧ (l.stopIntake i counted).loops = l.loops ∧ (l.stopIntake i counted).drivers = l.drivers
    ∧ (l.stopIntake i counted).lockdown = l.lockdown
    ∧ (l.stopIntake i counted).ledgers = l.ledgers
    ∧ (l.stopIntake i counted).bus.mute = l.bus.mute ∧ (l.stopIntake i counted).free = l.free := by
  unfold Lane.stopIntake
  dsimp only
  simp [*]

@[simp] theorem Lane.received_frame (l : Lane) (i : Intake) :
    (l.received i).clock = l.clock ∧ (l.received i).sup = l.sup
    ∧ (l.received i).settings = l.settings ∧ (l.received i).cass = l.cass
    ∧ (l.received i).transport = l.transport ∧ (l.received i).payout = l.payout
    ∧ (l.received i).drawer.movement = l.drawer.movement
    ∧ (l.received i).drawer.position = l.drawer.position ∧ (l.received i).envelope = l.envelope
    ∧ (l.received i).journal.cells = l.journal.cells ∧ (l.received i).loops = l.loops
    ∧ (l.received i).drivers = l.drivers ∧ (l.received i).lockdown = l.lockdown
    ∧ (l.received i).ledgers = l.ledgers ∧ (l.received i).bus.mute = l.bus.mute
    ∧ (l.received i).free = l.free := by
  unfold Lane.received
  repeat' split
  all_goals simp [*]

@[simp] theorem Lane.intakeTaken_frame (l : Lane) (i : Intake) :
    (l.intakeTaken i).clock = l.clock ∧ (l.intakeTaken i).sup = l.sup
    ∧ (l.intakeTaken i).settings = l.settings ∧ (l.intakeTaken i).cass = l.cass
    ∧ (l.intakeTaken i).transport = l.transport ∧ (l.intakeTaken i).payout = l.payout
    ∧ (l.intakeTaken i).drawer.movement = l.drawer.movement
    ∧ (l.intakeTaken i).drawer.position = l.drawer.position
    ∧ (l.intakeTaken i).envelope = l.envelope ∧ (l.intakeTaken i).journal.cells = l.journal.cells
    ∧ (l.intakeTaken i).loops = l.loops ∧ (l.intakeTaken i).drivers = l.drivers
    ∧ (l.intakeTaken i).lockdown = l.lockdown ∧ (l.intakeTaken i).ledgers = l.ledgers
    ∧ (l.intakeTaken i).bus.mute = l.bus.mute ∧ (l.intakeTaken i).free = l.free := by
  unfold Lane.intakeTaken
  repeat' split
  all_goals simp [*]

@[simp] theorem Lane.intakeRetracted_frame (l : Lane) (i : Intake) (jam : Bool) :
    (l.intakeRetracted i jam).clock = l.clock ∧ (l.intakeRetracted i jam).sup.lane = l.sup.lane
    ∧ (l.intakeRetracted i jam).sup.laneCount = l.sup.laneCount
    ∧ (l.intakeRetracted i jam).sup.scanning = l.sup.scanning
    ∧ (l.intakeRetracted i jam).sup.homing = l.sup.homing
    ∧ (l.intakeRetracted i jam).settings = l.settings ∧ (l.intakeRetracted i jam).cass = l.cass
    ∧ (l.intakeRetracted i jam).transport = l.transport
    ∧ (l.intakeRetracted i jam).drawer.movement = l.drawer.movement
    ∧ (l.intakeRetracted i jam).drawer.position = l.drawer.position
    ∧ (l.intakeRetracted i jam).journal.cells = l.journal.cells
    ∧ (l.intakeRetracted i jam).loops = l.loops ∧ (l.intakeRetracted i jam).lockdown = l.lockdown
    ∧ (l.intakeRetracted i jam).ledgers.cash = l.ledgers.cash
    ∧ (l.intakeRetracted i jam).bus.mute = l.bus.mute ∧ (l.intakeRetracted i jam).free = l.free := by
  unfold Lane.intakeRetracted
  dsimp only
  repeat' split
  all_goals simp [*]

@[simp] theorem Lane.intakeCleared_frame (l : Lane) (i : Intake) (unaccounted : Nat) :
    (l.intakeCleared i unaccounted).clock = l.clock ∧ (l.intakeCleared i unaccounted).sup = l.sup
    ∧ (l.intakeCleared i unaccounted).settings = l.settings
    ∧ (l.intakeCleared i unaccounted).cass = l.cass
    ∧ (l.intakeCleared i unaccounted).payout = l.payout
    ∧ (l.intakeCleared i unaccounted).envelope = l.envelope
    ∧ (l.intakeCleared i unaccounted).journal.cells = l.journal.cells
    ∧ (l.intakeCleared i unaccounted).loops = l.loops
    ∧ (l.intakeCleared i unaccounted).lockdown = l.lockdown
    ∧ (l.intakeCleared i unaccounted).ledgers = l.ledgers
    ∧ (l.intakeCleared i unaccounted).bus.mute = l.bus.mute
    ∧ (l.intakeCleared i unaccounted).free = l.free := by
  unfold Lane.intakeCleared
  repeat' split
  all_goals simp [*]

@[simp] theorem Lane.lockIntake_frame (l : Lane) :
    l.lockIntake.clock = l.clock ∧ l.lockIntake.sup = l.sup ∧ l.lockIntake.settings = l.settings
    ∧ l.lockIntake.cass = l.cass ∧ l.lockIntake.transport = l.transport
    ∧ l.lockIntake.payout = l.payout ∧ l.lockIntake.envelope = l.envelope
    ∧ l.lockIntake.journal = l.journal ∧ l.lockIntake.loops = l.loops
    ∧ l.lockIntake.lockdown = l.lockdown ∧ l.lockIntake.ledgers = l.ledgers
    ∧ l.lockIntake.bus = l.bus ∧ l.lockIntake.free = l.free := by
  unfold Lane.lockIntake
  repeat' split
  all_goals simp [*]

@[simp] theorem Lane.resumeEscrow_frame (l : Lane) :
    l.resumeEscrow.clock = l.clock ∧ l.resumeEscrow.sup = l.sup
    ∧ l.resumeEscrow.settings = l.settings ∧ l.resumeEscrow.cass = l.cass
    ∧ l.resumeEscrow.transport = l.transport ∧ l.resumeEscrow.payout = l.payout
    ∧ l.resumeEscrow.drawer = l.drawer ∧ l.resumeEscrow.envelope = l.envelope
    ∧ l.resumeEscrow.journal = l.journal ∧ l.resumeEscrow.loops = l.loops
    ∧ l.resumeEscrow.drivers = l.drivers ∧ l.resumeEscrow.lockdown = l.lockdown
    ∧ l.resumeEscrow.ledgers = l.ledgers ∧ l.resumeEscrow.bus = l.bus
    ∧ l.resumeEscrow.free = l.free := by
  unfold Lane.resumeEscrow
  repeat' split
  all_goals simp [*]

@[simp] theorem Lane.endPayout_frame (l : Lane) (p : Payout) (record : Option Record) (n : Notice) :
    (l.endPayout p record n).clock = l.clock ∧ (l.endPayout p record n).sup = l.sup
    ∧ (l.endPayout p record n).settings = l.settings ∧ (l.endPayout p record n).cass = l.cass
    ∧ (l.endPayout p record n).drawer.movement = l.drawer.movement
    ∧ (l.endPayout p record n).drawer.position = l.drawer.position
    ∧ (l.endPayout p record n).intake = l.intake ∧ (l.endPayout p record n).envelope = l.envelope
    ∧ (l.endPayout p record n).journal.cells = l.journal.cells
    ∧ (l.endPayout p record n).loops = l.loops ∧ (l.endPayout p record n).drivers = l.drivers
    ∧ (l.endPayout p record n).lockdown = l.lockdown
    ∧ (l.endPayout p record n).bus.mute = l.bus.mute ∧ (l.endPayout p record n).free = l.free := by
  unfold Lane.endPayout
  dsimp only
  repeat' split
  all_goals simp [*]

@[simp] theorem Lane.endPurged_frame (l : Lane) (p : Payout) (o : PayoutOutcome) :
    (l.endPurged p o).clock = l.clock ∧ (l.endPurged p o).sup = l.sup
    ∧ (l.endPurged p o).settings = l.settings ∧ (l.endPurged p o).cass = l.cass
    ∧ (l.endPurged p o).drawer.movement = l.drawer.movement
    ∧ (l.endPurged p o).drawer.position = l.drawer.position ∧ (l.endPurged p o).intake = l.intake
    ∧ (l.endPurged p o).envelope = l.envelope ∧ (l.endPurged p o).journal.cells = l.journal.cells
    ∧ (l.endPurged p o).loops = l.loops ∧ (l.endPurged p o).drivers = l.drivers
    ∧ (l.endPurged p o).lockdown = l.lockdown ∧ (l.endPurged p o).bus.mute = l.bus.mute
    ∧ (l.endPurged p o).free = l.free := by
  unfold Lane.endPurged
  simp [*]

@[simp] theorem Lane.purgeIfDone_frame (l : Lane) (p : Payout) :
    (l.purgeIfDone p).clock = l.clock ∧ (l.purgeIfDone p).sup = l.sup
    ∧ (l.purgeIfDone p).settings = l.settings ∧ (l.purgeIfDone p).cass = l.cass
    ∧ (l.purgeIfDone p).drawer.movement = l.drawer.movement
    ∧ (l.purgeIfDone p).drawer.position = l.drawer.position ∧ (l.purgeIfDone p).intake = l.intake
    ∧ (l.purgeIfDone p).envelope = l.envelope ∧ (l.purgeIfDone p).journal.cells = l.journal.cells
    ∧ (l.purgeIfDone p).loops = l.loops ∧ (l.purgeIfDone p).drivers = l.drivers
    ∧ (l.purgeIfDone p).lockdown = l.lockdown ∧ (l.purgeIfDone p).bus.mute = l.bus.mute
    ∧ (l.purgeIfDone p).free = l.free := by
  unfold Lane.purgeIfDone
  repeat' split
  all_goals simp [*]

@[simp] theorem Lane.purge_frame (l : Lane) (p : Payout) (o : PayoutOutcome) :
    (l.purge p o).clock = l.clock ∧ (l.purge p o).sup = l.sup
    ∧ (l.purge p o).settings = l.settings ∧ (l.purge p o).cass = l.cass
    ∧ (l.purge p o).drawer.movement = l.drawer.movement
    ∧ (l.purge p o).drawer.position = l.drawer.position ∧ (l.purge p o).intake = l.intake
    ∧ (l.purge p o).envelope = l.envelope ∧ (l.purge p o).journal.cells = l.journal.cells
    ∧ (l.purge p o).loops = l.loops ∧ (l.purge p o).drivers = l.drivers
    ∧ (l.purge p o).lockdown = l.lockdown ∧ (l.purge p o).bus.mute = l.bus.mute
    ∧ (l.purge p o).free = l.free := by
  unfold Lane.purge
  dsimp only
  simp [*]

@[simp] theorem Lane.payoutBinRefused_frame (l : Lane) (p : Payout) :
    (l.payoutBinRefused p).clock = l.clock ∧ (l.payoutBinRefused p).sup.lane = l.sup.lane
    ∧ (l.payoutBinRefused p).sup.laneCount = l.sup.laneCount
    ∧ (l.payoutBinRefused p).sup.scanning = l.sup.scanning
    ∧ (l.payoutBinRefused p).sup.homing = l.sup.homing
    ∧ (l.payoutBinRefused p).settings = l.settings ∧ (l.payoutBinRefused p).cass = l.cass
    ∧ (l.payoutBinRefused p).drawer.movement = l.drawer.movement
    ∧ (l.payoutBinRefused p).drawer.position = l.drawer.position
    ∧ (l.payoutBinRefused p).intake = l.intake
    ∧ (l.payoutBinRefused p).journal.cells = l.journal.cells
    ∧ (l.payoutBinRefused p).loops = l.loops ∧ (l.payoutBinRefused p).lockdown = l.lockdown
    ∧ (l.payoutBinRefused p).bus.mute = l.bus.mute ∧ (l.payoutBinRefused p).free = l.free := by
  unfold Lane.payoutBinRefused
  simp [*]

@[simp] theorem Lane.payoutJammed_frame (l : Lane) (p : Payout) :
    (l.payoutJammed p).clock = l.clock ∧ (l.payoutJammed p).sup.lane = l.sup.lane
    ∧ (l.payoutJammed p).sup.laneCount = l.sup.laneCount
    ∧ (l.payoutJammed p).sup.scanning = l.sup.scanning
    ∧ (l.payoutJammed p).sup.homing = l.sup.homing ∧ (l.payoutJammed p).settings = l.settings
    ∧ (l.payoutJammed p).cass = l.cass ∧ (l.payoutJammed p).drawer.movement = l.drawer.movement
    ∧ (l.payoutJammed p).drawer.position = l.drawer.position
    ∧ (l.payoutJammed p).intake = l.intake ∧ (l.payoutJammed p).journal.cells = l.journal.cells
    ∧ (l.payoutJammed p).loops = l.loops ∧ (l.payoutJammed p).lockdown = l.lockdown
    ∧ (l.payoutJammed p).bus.mute = l.bus.mute ∧ (l.payoutJammed p).free = l.free := by
  unfold Lane.payoutJammed
  simp [*]

@[simp] theorem Lane.askDrawer_frame (l : Lane) (p : Payout) :
    (l.askDrawer p).clock = l.clock ∧ (l.askDrawer p).sup = l.sup
    ∧ (l.askDrawer p).settings = l.settings ∧ (l.askDrawer p).cass = l.cass
    ∧ (l.askDrawer p).intake = l.intake ∧ (l.askDrawer p).envelope = l.envelope
    ∧ (l.askDrawer p).journal.cells = l.journal.cells ∧ (l.askDrawer p).loops = l.loops
    ∧ (l.askDrawer p).lockdown = l.lockdown ∧ (l.askDrawer p).bus.mute = l.bus.mute
    ∧ (l.askDrawer p).free = l.free := by
  unfold Lane.askDrawer
  dsimp only
  repeat' split
  all_goals simp [*]

@[simp] theorem Lane.drained_frame (l : Lane) (p : Payout) :
    (l.drained p).clock = l.clock ∧ (l.drained p).sup = l.sup
    ∧ (l.drained p).settings = l.settings ∧ (l.drained p).cass = l.cass
    ∧ (l.drained p).intake = l.intake ∧ (l.drained p).envelope = l.envelope
    ∧ (l.drained p).journal.cells = l.journal.cells ∧ (l.drained p).loops = l.loops
    ∧ (l.drained p).lockdown = l.lockdown ∧ (l.drained p).bus.mute = l.bus.mute
    ∧ (l.drained p).free = l.free := by
  unfold Lane.drained
  dsimp only
  repeat' split
  all_goals simp [*]

@[simp] theorem Lane.checkLost_frame (l : Lane) :
    l.checkLost.clock = l.clock ∧ l.checkLost.sup = l.sup ∧ l.checkLost.settings = l.settings
    ∧ l.checkLost.cass = l.cass ∧ l.checkLost.intake = l.intake
    ∧ l.checkLost.envelope = l.envelope ∧ l.checkLost.journal.cells = l.journal.cells
    ∧ l.checkLost.loops = l.loops ∧ l.checkLost.lockdown = l.lockdown
    ∧ l.checkLost.bus.mute = l.bus.mute ∧ l.checkLost.free = l.free := by
  unfold Lane.checkLost
  dsimp only
  repeat' split
  all_goals simp [*]

@[simp] theorem Lane.startPicking_frame (l : Lane) (p : Payout) :
    (l.startPicking p).clock = l.clock ∧ (l.startPicking p).sup = l.sup
    ∧ (l.startPicking p).settings = l.settings ∧ (l.startPicking p).cass = l.cass
    ∧ (l.startPicking p).intake = l.intake ∧ (l.startPicking p).envelope = l.envelope
    ∧ (l.startPicking p).journal.cells = l.journal.cells ∧ (l.startPicking p).loops = l.loops
    ∧ (l.startPicking p).lockdown = l.lockdown ∧ (l.startPicking p).bus.mute = l.bus.mute
    ∧ (l.startPicking p).free = l.free := by
  unfold Lane.startPicking
  dsimp only
  simp [*]

@[simp] theorem Lane.retractPayout_frame (l : Lane) (p : Payout) :
    (l.retractPayout p).clock = l.clock ∧ (l.retractPayout p).sup = l.sup
    ∧ (l.retractPayout p).settings = l.settings ∧ (l.retractPayout p).cass = l.cass
    ∧ (l.retractPayout p).transport = l.transport ∧ (l.retractPayout p).intake = l.intake
    ∧ (l.retractPayout p).envelope = l.envelope ∧ (l.retractPayout p).journal = l.journal
    ∧ (l.retractPayout p).loops = l.loops ∧ (l.retractPayout p).lockdown = l.lockdown
    ∧ (l.retractPayout p).ledgers = l.ledgers ∧ (l.retractPayout p).bus = l.bus
    ∧ (l.retractPayout p).free = l.free := by
  unfold Lane.retractPayout
  repeat' split
  all_goals simp [*]

@[simp] theorem Lane.payoutOut_frame (l : Lane) (p : Payout) :
    (l.payoutOut p).clock = l.clock ∧ (l.payoutOut p).sup = l.sup
    ∧ (l.payoutOut p).settings = l.settings ∧ (l.payoutOut p).cass = l.cass
    ∧ (l.payoutOut p).transport = l.transport ∧ (l.payoutOut p).intake = l.intake
    ∧ (l.payoutOut p).envelope = l.envelope ∧ (l.payoutOut p).journal = l.journal
    ∧ (l.payoutOut p).loops = l.loops ∧ (l.payoutOut p).lockdown = l.lockdown
    ∧ (l.payoutOut p).ledgers = l.ledgers ∧ (l.payoutOut p).bus.mute = l.bus.mute
    ∧ (l.payoutOut p).free = l.free := by
  unfold Lane.payoutOut
  dsimp only
  repeat' split
  all_goals simp [*]

@[simp] theorem Lane.payoutTaken_frame (l : Lane) (p : Payout) :
    (l.payoutTaken p).clock = l.clock ∧ (l.payoutTaken p).sup = l.sup
    ∧ (l.payoutTaken p).settings = l.settings ∧ (l.payoutTaken p).cass = l.cass
    ∧ (l.payoutTaken p).drawer.movement = l.drawer.movement
    ∧ (l.payoutTaken p).drawer.position = l.drawer.position ∧ (l.payoutTaken p).intake = l.intake
    ∧ (l.payoutTaken p).envelope = l.envelope ∧ (l.payoutTaken p).journal.cells = l.journal.cells
    ∧ (l.payoutTaken p).loops = l.loops ∧ (l.payoutTaken p).drivers = l.drivers
    ∧ (l.payoutTaken p).lockdown = l.lockdown ∧ (l.payoutTaken p).bus.mute = l.bus.mute
    ∧ (l.payoutTaken p).free = l.free := by
  unfold Lane.payoutTaken
  simp [*]

@[simp] theorem Lane.payoutRetracted_frame (l : Lane) (p : Payout) :
    (l.payoutRetracted p).clock = l.clock ∧ (l.payoutRetracted p).sup = l.sup
    ∧ (l.payoutRetracted p).settings = l.settings ∧ (l.payoutRetracted p).cass = l.cass
    ∧ (l.payoutRetracted p).drawer.movement = l.drawer.movement
    ∧ (l.payoutRetracted p).drawer.position = l.drawer.position
    ∧ (l.payoutRetracted p).intake = l.intake ∧ (l.payoutRetracted p).envelope = l.envelope
    ∧ (l.payoutRetracted p).journal.cells = l.journal.cells
    ∧ (l.payoutRetracted p).loops = l.loops ∧ (l.payoutRetracted p).drivers = l.drivers
    ∧ (l.payoutRetracted p).lockdown = l.lockdown ∧ (l.payoutRetracted p).bus.mute = l.bus.mute
    ∧ (l.payoutRetracted p).free = l.free := by
  unfold Lane.payoutRetracted
  dsimp only
  simp [*]

@[simp] theorem Lane.lockPayout_frame (l : Lane) :
    l.lockPayout.clock = l.clock ∧ l.lockPayout.sup = l.sup ∧ l.lockPayout.settings = l.settings
    ∧ l.lockPayout.cass = l.cass ∧ l.lockPayout.intake = l.intake
    ∧ l.lockPayout.envelope = l.envelope ∧ l.lockPayout.journal.cells = l.journal.cells
    ∧ l.lockPayout.loops = l.loops ∧ l.lockPayout.lockdown = l.lockdown
    ∧ l.lockPayout.bus.mute = l.bus.mute ∧ l.lockPayout.free = l.free := by
  unfold Lane.lockPayout
  repeat' split
  all_goals simp [*]

@[simp] theorem Lane.drawerFreed_frame (l : Lane) :
    l.drawerFreed.clock = l.clock ∧ l.drawerFreed.sup = l.sup
    ∧ l.drawerFreed.settings = l.settings ∧ l.drawerFreed.cass = l.cass
    ∧ l.drawerFreed.envelope = l.envelope ∧ l.drawerFreed.journal.cells = l.journal.cells
    ∧ l.drawerFreed.loops = l.loops ∧ l.drawerFreed.lockdown = l.lockdown
    ∧ l.drawerFreed.bus.mute = l.bus.mute ∧ l.drawerFreed.free = l.free := by
  unfold Lane.drawerFreed
  dsimp only
  repeat' split
  all_goals simp [*]

@[simp] theorem Lane.arriveOut_frame (l : Lane) :
    l.arriveOut.clock = l.clock ∧ l.arriveOut.sup = l.sup ∧ l.arriveOut.settings = l.settings
    ∧ l.arriveOut.cass = l.cass ∧ l.arriveOut.transport = l.transport
    ∧ l.arriveOut.intake = l.intake ∧ l.arriveOut.envelope = l.envelope
    ∧ l.arriveOut.journal = l.journal ∧ l.arriveOut.loops = l.loops
    ∧ l.arriveOut.lockdown = l.lockdown ∧ l.arriveOut.ledgers = l.ledgers
    ∧ l.arriveOut.bus.mute = l.bus.mute ∧ l.arriveOut.free = l.free := by
  unfold Lane.arriveOut
  dsimp only
  repeat' split
  all_goals simp [*]

@[simp] theorem Lane.receiveHome_frame (l : Lane) :
    l.receiveHome.clock = l.clock ∧ l.receiveHome.sup = l.sup
    ∧ l.receiveHome.settings = l.settings ∧ l.receiveHome.cass = l.cass
    ∧ l.receiveHome.envelope = l.envelope ∧ l.receiveHome.journal.cells = l.journal.cells
    ∧ l.receiveHome.loops = l.loops ∧ l.receiveHome.lockdown = l.lockdown
    ∧ l.receiveHome.bus.mute = l.bus.mute ∧ l.receiveHome.free = l.free := by
  unfold Lane.receiveHome
  dsimp only
  repeat' split
  all_goals simp [*]

@[simp] theorem Lane.clearingDone_frame (l : Lane) :
    l.clearingDone.clock = l.clock ∧ l.clearingDone.sup.service = l.sup.service
    ∧ l.clearingDone.sup.lane = l.sup.lane ∧ l.clearingDone.sup.laneCount = l.sup.laneCount
    ∧ l.clearingDone.sup.scanning = l.sup.scanning ∧ l.clearingDone.sup.homing = l.sup.homing
    ∧ l.clearingDone.settings = l.settings ∧ l.clearingDone.cass = l.cass
    ∧ l.clearingDone.envelope = l.envelope ∧ l.clearingDone.journal.cells = l.journal.cells
    ∧ l.clearingDone.loops = l.loops ∧ l.clearingDone.lockdown = l.lockdown
    ∧ l.clearingDone.bus.mute = l.bus.mute ∧ l.clearingDone.free = l.free := by
  unfold Lane.clearingDone
  dsimp only
  repeat' split
  all_goals simp [*]

@[simp] theorem Lane.arrive_frame (l : Lane) (m : Movement) :
    (l.arrive m).clock = l.clock ∧ (l.arrive m).sup.service = l.sup.service
    ∧ (l.arrive m).sup.lane = l.sup.lane ∧ (l.arrive m).sup.laneCount = l.sup.laneCount
    ∧ (l.arrive m).sup.scanning = l.sup.scanning ∧ (l.arrive m).sup.homing = l.sup.homing
    ∧ (l.arrive m).settings = l.settings ∧ (l.arrive m).cass = l.cass
    ∧ (l.arrive m).envelope = l.envelope ∧ (l.arrive m).journal.cells = l.journal.cells
    ∧ (l.arrive m).loops = l.loops ∧ (l.arrive m).lockdown = l.lockdown
    ∧ (l.arrive m).bus.mute = l.bus.mute ∧ (l.arrive m).free = l.free := by
  unfold Lane.arrive
  dsimp only
  repeat' split
  all_goals simp [*]

@[simp] theorem Lane.settleRun_frame (l : Lane) :
    l.settleRun.clock = l.clock ∧ l.settleRun.sup.service = l.sup.service
    ∧ l.settleRun.sup.lane = l.sup.lane ∧ l.settleRun.sup.laneCount = l.sup.laneCount
    ∧ l.settleRun.sup.scanning = l.sup.scanning ∧ l.settleRun.sup.homing = l.sup.homing
    ∧ l.settleRun.settings = l.settings ∧ l.settleRun.cass = l.cass
    ∧ l.settleRun.envelope = l.envelope ∧ l.settleRun.journal.cells = l.journal.cells
    ∧ l.settleRun.loops = l.loops ∧ l.settleRun.lockdown = l.lockdown
    ∧ l.settleRun.bus.mute = l.bus.mute ∧ l.settleRun.free = l.free := by
  unfold Lane.settleRun
  repeat' split
  all_goals simp [*]

@[simp] theorem Lane.retractDone_frame (l : Lane) (jam : Bool) :
    (l.retractDone jam).clock = l.clock ∧ (l.retractDone jam).sup.lane = l.sup.lane
    ∧ (l.retractDone jam).sup.laneCount = l.sup.laneCount
    ∧ (l.retractDone jam).sup.scanning = l.sup.scanning
    ∧ (l.retractDone jam).sup.homing = l.sup.homing ∧ (l.retractDone jam).settings = l.settings
    ∧ (l.retractDone jam).cass = l.cass ∧ (l.retractDone jam).drawer.movement = l.drawer.movement
    ∧ (l.retractDone jam).drawer.position = l.drawer.position
    ∧ (l.retractDone jam).journal.cells = l.journal.cells ∧ (l.retractDone jam).loops = l.loops
    ∧ (l.retractDone jam).lockdown = l.lockdown ∧ (l.retractDone jam).bus.mute = l.bus.mute
    ∧ (l.retractDone jam).free = l.free := by
  unfold Lane.retractDone
  repeat' split
  all_goals simp [*]

@[simp] theorem Lane.trayExhausted_frame (l : Lane) :
    l.trayExhausted.clock = l.clock ∧ l.trayExhausted.sup.lane = l.sup.lane
    ∧ l.trayExhausted.sup.laneCount = l.sup.laneCount
    ∧ l.trayExhausted.sup.scanning = l.sup.scanning ∧ l.trayExhausted.settings = l.settings
    ∧ l.trayExhausted.cass = l.cass ∧ l.trayExhausted.journal.cells = l.journal.cells
    ∧ l.trayExhausted.loops = l.loops ∧ l.trayExhausted.lockdown = l.lockdown
    ∧ l.trayExhausted.bus.mute = l.bus.mute ∧ l.trayExhausted.free = l.free := by
  unfold Lane.trayExhausted
  dsimp only
  simp [*]

@[simp] theorem Lane.countStopped_frame (l : Lane) (jam : Bool) :
    (l.countStopped jam).clock = l.clock ∧ (l.countStopped jam).sup.lane = l.sup.lane
    ∧ (l.countStopped jam).sup.laneCount = l.sup.laneCount
    ∧ (l.countStopped jam).sup.scanning = l.sup.scanning
    ∧ (l.countStopped jam).settings = l.settings ∧ (l.countStopped jam).cass = l.cass
    ∧ (l.countStopped jam).drawer.movement = l.drawer.movement
    ∧ (l.countStopped jam).drawer.position = l.drawer.position
    ∧ (l.countStopped jam).journal.cells = l.journal.cells ∧ (l.countStopped jam).loops = l.loops
    ∧ (l.countStopped jam).lockdown = l.lockdown ∧ (l.countStopped jam).bus.mute = l.bus.mute
    ∧ (l.countStopped jam).free = l.free := by
  unfold Lane.countStopped
  dsimp only
  repeat' split
  all_goals simp [*]

@[simp] theorem Lane.jamDrawer_frame (l : Lane) :
    l.jamDrawer.clock = l.clock ∧ l.jamDrawer.sup.lane = l.sup.lane
    ∧ l.jamDrawer.sup.laneCount = l.sup.laneCount ∧ l.jamDrawer.sup.scanning = l.sup.scanning
    ∧ l.jamDrawer.settings = l.settings ∧ l.jamDrawer.cass = l.cass
    ∧ l.jamDrawer.journal.cells = l.journal.cells ∧ l.jamDrawer.loops = l.loops
    ∧ l.jamDrawer.lockdown = l.lockdown ∧ l.jamDrawer.bus.mute = l.bus.mute
    ∧ l.jamDrawer.free = l.free := by
  unfold Lane.jamDrawer
  dsimp only
  repeat' split
  all_goals simp [*]

@[simp] theorem Lane.clearingFailed_frame (l : Lane) :
    l.clearingFailed.clock = l.clock ∧ l.clearingFailed.sup.service = l.sup.service
    ∧ l.clearingFailed.sup.lane = l.sup.lane ∧ l.clearingFailed.sup.laneCount = l.sup.laneCount
    ∧ l.clearingFailed.sup.causes = l.sup.causes ∧ l.clearingFailed.sup.scanning = l.sup.scanning
    ∧ l.clearingFailed.sup.homing = l.sup.homing ∧ l.clearingFailed.settings = l.settings
    ∧ l.clearingFailed.cass = l.cass ∧ l.clearingFailed.transport = l.transport
    ∧ l.clearingFailed.payout = l.payout ∧ l.clearingFailed.intake = l.intake
    ∧ l.clearingFailed.envelope = l.envelope ∧ l.clearingFailed.journal.cells = l.journal.cells
    ∧ l.clearingFailed.loops = l.loops ∧ l.clearingFailed.lockdown = l.lockdown
    ∧ l.clearingFailed.ledgers = l.ledgers ∧ l.clearingFailed.bus.mute = l.bus.mute
    ∧ l.clearingFailed.free = l.free := by
  unfold Lane.clearingFailed
  dsimp only
  repeat' split
  all_goals simp [*]

@[simp] theorem Lane.takeDecided_frame (l : Lane) :
    l.takeDecided.clock = l.clock ∧ l.takeDecided.sup = l.sup
    ∧ l.takeDecided.settings = l.settings ∧ l.takeDecided.cass = l.cass
    ∧ l.takeDecided.envelope = l.envelope ∧ l.takeDecided.journal.cells = l.journal.cells
    ∧ l.takeDecided.loops = l.loops ∧ l.takeDecided.lockdown = l.lockdown
    ∧ l.takeDecided.bus.mute = l.bus.mute ∧ l.takeDecided.free = l.free := by
  unfold Lane.takeDecided
  dsimp only
  repeat' split
  all_goals simp [*]

@[simp] theorem Lane.retractOwn_frame (l : Lane) :
    l.retractOwn.clock = l.clock ∧ l.retractOwn.sup = l.sup ∧ l.retractOwn.settings = l.settings
    ∧ l.retractOwn.cass = l.cass ∧ l.retractOwn.transport = l.transport
    ∧ l.retractOwn.intake = l.intake ∧ l.retractOwn.envelope = l.envelope
    ∧ l.retractOwn.journal = l.journal ∧ l.retractOwn.loops = l.loops
    ∧ l.retractOwn.lockdown = l.lockdown ∧ l.retractOwn.ledgers = l.ledgers
    ∧ l.retractOwn.bus = l.bus ∧ l.retractOwn.free = l.free := by
  unfold Lane.retractOwn
  dsimp only
  repeat' split
  all_goals simp [*]

@[simp] theorem Lane.strobeRaised_frame (l : Lane) :
    l.strobeRaised.clock = l.clock ∧ l.strobeRaised.sup = l.sup
    ∧ l.strobeRaised.settings = l.settings ∧ l.strobeRaised.cass = l.cass
    ∧ l.strobeRaised.transport = l.transport ∧ l.strobeRaised.payout = l.payout
    ∧ l.strobeRaised.drawer = l.drawer ∧ l.strobeRaised.intake = l.intake
    ∧ l.strobeRaised.envelope = l.envelope ∧ l.strobeRaised.journal = l.journal
    ∧ l.strobeRaised.loops = l.loops ∧ l.strobeRaised.lockdown = l.lockdown
    ∧ l.strobeRaised.ledgers = l.ledgers ∧ l.strobeRaised.bus = l.bus
    ∧ l.strobeRaised.free = l.free := by
  unfold Lane.strobeRaised
  dsimp only
  repeat' split
  all_goals simp [*]

@[simp] theorem Lane.strobeSettle_frame (l : Lane) :
    l.strobeSettle.clock = l.clock ∧ l.strobeSettle.sup = l.sup
    ∧ l.strobeSettle.settings = l.settings ∧ l.strobeSettle.cass = l.cass
    ∧ l.strobeSettle.transport = l.transport ∧ l.strobeSettle.payout = l.payout
    ∧ l.strobeSettle.drawer = l.drawer ∧ l.strobeSettle.intake = l.intake
    ∧ l.strobeSettle.envelope = l.envelope ∧ l.strobeSettle.journal = l.journal
    ∧ l.strobeSettle.loops = l.loops ∧ l.strobeSettle.lockdown = l.lockdown
    ∧ l.strobeSettle.ledgers = l.ledgers ∧ l.strobeSettle.bus = l.bus
    ∧ l.strobeSettle.free = l.free := by
  unfold Lane.strobeSettle
  repeat' split
  all_goals simp [*]

@[simp] theorem Lane.doorAlarmed_frame (l : Lane) (n : LoopNo) :
    (l.doorAlarmed n).clock = l.clock ∧ (l.doorAlarmed n).sup = l.sup
    ∧ (l.doorAlarmed n).settings = l.settings ∧ (l.doorAlarmed n).cass = l.cass
    ∧ (l.doorAlarmed n).transport = l.transport ∧ (l.doorAlarmed n).payout = l.payout
    ∧ (l.doorAlarmed n).drawer = l.drawer ∧ (l.doorAlarmed n).intake = l.intake
    ∧ (l.doorAlarmed n).envelope = l.envelope ∧ (l.doorAlarmed n).journal = l.journal
    ∧ (l.doorAlarmed n).loops = l.loops ∧ (l.doorAlarmed n).lockdown = l.lockdown
    ∧ (l.doorAlarmed n).ledgers = l.ledgers ∧ (l.doorAlarmed n).bus.mute = l.bus.mute
    ∧ (l.doorAlarmed n).free = l.free := by
  unfold Lane.doorAlarmed
  simp [*]

@[simp] theorem Lane.raiseDoorAlarm_frame (l : Lane) :
    l.raiseDoorAlarm.clock = l.clock ∧ l.raiseDoorAlarm.sup = l.sup
    ∧ l.raiseDoorAlarm.settings = l.settings ∧ l.raiseDoorAlarm.cass = l.cass
    ∧ l.raiseDoorAlarm.transport = l.transport ∧ l.raiseDoorAlarm.payout = l.payout
    ∧ l.raiseDoorAlarm.drawer = l.drawer ∧ l.raiseDoorAlarm.intake = l.intake
    ∧ l.raiseDoorAlarm.envelope = l.envelope ∧ l.raiseDoorAlarm.journal = l.journal
    ∧ l.raiseDoorAlarm.loops = l.loops ∧ l.raiseDoorAlarm.lockdown = l.lockdown
    ∧ l.raiseDoorAlarm.ledgers = l.ledgers ∧ l.raiseDoorAlarm.bus.mute = l.bus.mute
    ∧ l.raiseDoorAlarm.free = l.free := by
  unfold Lane.raiseDoorAlarm
  repeat' split
  all_goals simp [*]

@[simp] theorem Lane.endService_frame (l : Lane) :
    l.endService.clock = l.clock ∧ l.endService.sup = l.sup ∧ l.endService.settings = l.settings
    ∧ l.endService.cass = l.cass ∧ l.endService.transport = l.transport
    ∧ l.endService.payout = l.payout ∧ l.endService.drawer = l.drawer
    ∧ l.endService.intake = l.intake ∧ l.endService.journal = l.journal
    ∧ l.endService.loops = l.loops ∧ l.endService.lockdown = l.lockdown
    ∧ l.endService.ledgers = l.ledgers ∧ l.endService.bus.mute = l.bus.mute
    ∧ l.endService.free = l.free := by
  unfold Lane.endService
  dsimp only
  simp [*]

@[simp] theorem Lane.lockdownRecord_frame (l : Lane) (r : Record) :
    (l.lockdownRecord r).clock = l.clock ∧ (l.lockdownRecord r).sup = l.sup
    ∧ (l.lockdownRecord r).settings = l.settings ∧ (l.lockdownRecord r).cass = l.cass
    ∧ (l.lockdownRecord r).transport = l.transport ∧ (l.lockdownRecord r).payout = l.payout
    ∧ (l.lockdownRecord r).drawer = l.drawer ∧ (l.lockdownRecord r).intake = l.intake
    ∧ (l.lockdownRecord r).envelope = l.envelope
    ∧ (l.lockdownRecord r).journal.cells = l.journal.cells ∧ (l.lockdownRecord r).loops = l.loops
    ∧ (l.lockdownRecord r).drivers = l.drivers ∧ (l.lockdownRecord r).ledgers = l.ledgers
    ∧ (l.lockdownRecord r).bus = l.bus ∧ (l.lockdownRecord r).free = l.free := by
  unfold Lane.lockdownRecord
  dsimp only
  repeat' split
  all_goals simp [*]

@[simp] theorem Lane.lockHold_frame (l : Lane) :
    l.lockHold.clock = l.clock ∧ l.lockHold.sup = l.sup ∧ l.lockHold.settings = l.settings
    ∧ l.lockHold.cass = l.cass ∧ l.lockHold.transport = l.transport ∧ l.lockHold.payout = l.payout
    ∧ l.lockHold.drawer = l.drawer ∧ l.lockHold.intake = l.intake
    ∧ l.lockHold.envelope = l.envelope ∧ l.lockHold.journal = l.journal
    ∧ l.lockHold.loops = l.loops ∧ l.lockHold.drivers = l.drivers
    ∧ l.lockHold.ledgers.cash = l.ledgers.cash ∧ l.lockHold.bus.mute = l.bus.mute
    ∧ l.lockHold.free = l.free := by
  unfold Lane.lockHold
  dsimp only
  repeat' split
  all_goals simp [*]

@[simp] theorem Lane.lockJobs_frame (l : Lane) :
    l.lockJobs.clock = l.clock ∧ l.lockJobs.sup = l.sup ∧ l.lockJobs.settings = l.settings
    ∧ l.lockJobs.cass = l.cass ∧ l.lockJobs.journal.cells = l.journal.cells
    ∧ l.lockJobs.loops = l.loops ∧ l.lockJobs.lockdown = l.lockdown
    ∧ l.lockJobs.bus.mute = l.bus.mute ∧ l.lockJobs.free = l.free := by
  unfold Lane.lockJobs
  dsimp only
  simp [*]

@[simp] theorem Lane.holdUp_frame (l : Lane) (loop : LoopNo) :
    (l.holdUp loop).clock = l.clock ∧ (l.holdUp loop).sup = l.sup
    ∧ (l.holdUp loop).settings = l.settings ∧ (l.holdUp loop).cass = l.cass
    ∧ (l.holdUp loop).journal.cells = l.journal.cells ∧ (l.holdUp loop).loops = l.loops
    ∧ (l.holdUp loop).bus.mute = l.bus.mute ∧ (l.holdUp loop).free = l.free := by
  unfold Lane.holdUp
  dsimp only
  repeat' split
  all_goals simp [*]

@[simp] theorem Lane.heardLockdown_frame (l : Lane) (origin : Option LoopOrigin) :
    (l.heardLockdown origin).clock = l.clock ∧ (l.heardLockdown origin).sup = l.sup
    ∧ (l.heardLockdown origin).settings = l.settings ∧ (l.heardLockdown origin).cass = l.cass
    ∧ (l.heardLockdown origin).journal.cells = l.journal.cells
    ∧ (l.heardLockdown origin).loops = l.loops ∧ (l.heardLockdown origin).bus.mute = l.bus.mute
    ∧ (l.heardLockdown origin).free = l.free := by
  unfold Lane.heardLockdown
  repeat' split
  all_goals simp [*]

@[simp] theorem Lane.setPeer_frame (l : Lane) (n : LaneNo) (p : Peer) :
    (l.setPeer n p).clock = l.clock ∧ (l.setPeer n p).sup = l.sup
    ∧ (l.setPeer n p).settings = l.settings ∧ (l.setPeer n p).cass = l.cass
    ∧ (l.setPeer n p).transport = l.transport ∧ (l.setPeer n p).payout = l.payout
    ∧ (l.setPeer n p).drawer = l.drawer ∧ (l.setPeer n p).intake = l.intake
    ∧ (l.setPeer n p).envelope = l.envelope ∧ (l.setPeer n p).journal = l.journal
    ∧ (l.setPeer n p).loops = l.loops ∧ (l.setPeer n p).drivers = l.drivers
    ∧ (l.setPeer n p).lockdown = l.lockdown ∧ (l.setPeer n p).ledgers.cash = l.ledgers.cash
    ∧ (l.setPeer n p).free = l.free := by
  unfold Lane.setPeer Lane.afterViews
  dsimp only
  repeat' split
  all_goals simp [*]

@[simp] theorem Lane.peerFrame_frame (l : Lane) (n : LaneNo) :
    (l.peerFrame n).clock = l.clock ∧ (l.peerFrame n).sup = l.sup
    ∧ (l.peerFrame n).settings = l.settings ∧ (l.peerFrame n).cass = l.cass
    ∧ (l.peerFrame n).transport = l.transport ∧ (l.peerFrame n).payout = l.payout
    ∧ (l.peerFrame n).drawer = l.drawer ∧ (l.peerFrame n).intake = l.intake
    ∧ (l.peerFrame n).envelope = l.envelope ∧ (l.peerFrame n).journal = l.journal
    ∧ (l.peerFrame n).loops = l.loops ∧ (l.peerFrame n).drivers = l.drivers
    ∧ (l.peerFrame n).lockdown = l.lockdown ∧ (l.peerFrame n).ledgers.cash = l.ledgers.cash
    ∧ (l.peerFrame n).free = l.free := by
  unfold Lane.peerFrame
  repeat' split
  all_goals simp [*]

@[simp] theorem Lane.peerAdjust_frame (l : Lane) (n : LaneNo) (f : Peer → Peer) :
    (l.peerAdjust n f).clock = l.clock ∧ (l.peerAdjust n f).sup = l.sup
    ∧ (l.peerAdjust n f).settings = l.settings ∧ (l.peerAdjust n f).cass = l.cass
    ∧ (l.peerAdjust n f).transport = l.transport ∧ (l.peerAdjust n f).payout = l.payout
    ∧ (l.peerAdjust n f).drawer = l.drawer ∧ (l.peerAdjust n f).intake = l.intake
    ∧ (l.peerAdjust n f).envelope = l.envelope ∧ (l.peerAdjust n f).journal = l.journal
    ∧ (l.peerAdjust n f).loops = l.loops ∧ (l.peerAdjust n f).drivers = l.drivers
    ∧ (l.peerAdjust n f).lockdown = l.lockdown ∧ (l.peerAdjust n f).ledgers.cash = l.ledgers.cash
    ∧ (l.peerAdjust n f).free = l.free := by
  unfold Lane.peerAdjust
  dsimp only
  repeat' split
  all_goals simp [*]

@[simp] theorem Lane.peerStatus_frame (l : Lane) (n : LaneNo) (st : StatusHeard) :
    (l.peerStatus n st).clock = l.clock ∧ (l.peerStatus n st).sup = l.sup
    ∧ (l.peerStatus n st).settings = l.settings ∧ (l.peerStatus n st).cass = l.cass
    ∧ (l.peerStatus n st).transport = l.transport ∧ (l.peerStatus n st).payout = l.payout
    ∧ (l.peerStatus n st).drawer = l.drawer ∧ (l.peerStatus n st).intake = l.intake
    ∧ (l.peerStatus n st).envelope = l.envelope ∧ (l.peerStatus n st).journal = l.journal
    ∧ (l.peerStatus n st).loops = l.loops ∧ (l.peerStatus n st).drivers = l.drivers
    ∧ (l.peerStatus n st).lockdown = l.lockdown
    ∧ (l.peerStatus n st).ledgers.cash = l.ledgers.cash ∧ (l.peerStatus n st).free = l.free := by
  unfold Lane.peerStatus
  dsimp only
  repeat' split
  all_goals simp [*]

@[simp] theorem Lane.silenceBroken_frame (l : Lane) :
    l.silenceBroken.clock = l.clock ∧ l.silenceBroken.sup = l.sup
    ∧ l.silenceBroken.settings = l.settings ∧ l.silenceBroken.cass = l.cass
    ∧ l.silenceBroken.transport = l.transport ∧ l.silenceBroken.payout = l.payout
    ∧ l.silenceBroken.drawer = l.drawer ∧ l.silenceBroken.intake = l.intake
    ∧ l.silenceBroken.envelope = l.envelope ∧ l.silenceBroken.journal = l.journal
    ∧ l.silenceBroken.loops = l.loops ∧ l.silenceBroken.drivers = l.drivers
    ∧ l.silenceBroken.lockdown = l.lockdown ∧ l.silenceBroken.ledgers.cash = l.ledgers.cash
    ∧ l.silenceBroken.bus = l.bus ∧ l.silenceBroken.free = l.free := by
  unfold Lane.silenceBroken
  dsimp only
  repeat' split
  all_goals simp [*]

@[simp] theorem Lane.wentStale_frame (l : Lane) (n : LaneNo) :
    (l.wentStale n).clock = l.clock ∧ (l.wentStale n).sup = l.sup
    ∧ (l.wentStale n).settings = l.settings ∧ (l.wentStale n).cass = l.cass
    ∧ (l.wentStale n).transport = l.transport ∧ (l.wentStale n).payout = l.payout
    ∧ (l.wentStale n).drawer = l.drawer ∧ (l.wentStale n).intake = l.intake
    ∧ (l.wentStale n).envelope = l.envelope ∧ (l.wentStale n).journal = l.journal
    ∧ (l.wentStale n).loops = l.loops ∧ (l.wentStale n).drivers = l.drivers
    ∧ (l.wentStale n).lockdown = l.lockdown ∧ (l.wentStale n).ledgers.cash = l.ledgers.cash
    ∧ (l.wentStale n).free = l.free := by
  unfold Lane.wentStale
  dsimp only
  repeat' split
  all_goals simp [*]

@[simp] theorem Lane.listenPassed_frame (l : Lane) (n : LaneNo) :
    (l.listenPassed n).clock = l.clock ∧ (l.listenPassed n).sup = l.sup
    ∧ (l.listenPassed n).settings = l.settings ∧ (l.listenPassed n).cass = l.cass
    ∧ (l.listenPassed n).transport = l.transport ∧ (l.listenPassed n).payout = l.payout
    ∧ (l.listenPassed n).drawer = l.drawer ∧ (l.listenPassed n).intake = l.intake
    ∧ (l.listenPassed n).envelope = l.envelope ∧ (l.listenPassed n).journal = l.journal
    ∧ (l.listenPassed n).loops = l.loops ∧ (l.listenPassed n).drivers = l.drivers
    ∧ (l.listenPassed n).lockdown = l.lockdown ∧ (l.listenPassed n).ledgers.cash = l.ledgers.cash
    ∧ (l.listenPassed n).free = l.free := by
  unfold Lane.listenPassed
  dsimp only
  repeat' split
  all_goals simp [*]

@[simp] theorem Lane.silenceExpired_frame (l : Lane) :
    l.silenceExpired.clock = l.clock ∧ l.silenceExpired.sup = l.sup
    ∧ l.silenceExpired.settings = l.settings ∧ l.silenceExpired.cass = l.cass
    ∧ l.silenceExpired.transport = l.transport ∧ l.silenceExpired.payout = l.payout
    ∧ l.silenceExpired.drawer = l.drawer ∧ l.silenceExpired.intake = l.intake
    ∧ l.silenceExpired.envelope = l.envelope ∧ l.silenceExpired.journal = l.journal
    ∧ l.silenceExpired.loops = l.loops ∧ l.silenceExpired.drivers = l.drivers
    ∧ l.silenceExpired.lockdown = l.lockdown ∧ l.silenceExpired.ledgers.cash = l.ledgers.cash
    ∧ l.silenceExpired.bus = l.bus ∧ l.silenceExpired.free = l.free := by
  unfold Lane.silenceExpired
  dsimp only
  repeat' split
  all_goals simp [*]

@[simp] theorem Lane.beginHeard_frame (l : Lane) (from_ : Station) :
    (l.beginHeard from_).clock = l.clock ∧ (l.beginHeard from_).sup = l.sup
    ∧ (l.beginHeard from_).settings = l.settings ∧ (l.beginHeard from_).cass = l.cass
    ∧ (l.beginHeard from_).transport = l.transport ∧ (l.beginHeard from_).payout = l.payout
    ∧ (l.beginHeard from_).drawer = l.drawer ∧ (l.beginHeard from_).intake = l.intake
    ∧ (l.beginHeard from_).journal.cells = l.journal.cells ∧ (l.beginHeard from_).loops = l.loops
    ∧ (l.beginHeard from_).lockdown = l.lockdown
    ∧ (l.beginHeard from_).ledgers.cash = l.ledgers.cash
    ∧ (l.beginHeard from_).bus.mute = l.bus.mute ∧ (l.beginHeard from_).free = l.free := by
  unfold Lane.beginHeard
  dsimp only
  simp [*]

@[simp] theorem Lane.endHeard_frame (l : Lane) (from_ : Station) :
    (l.endHeard from_).clock = l.clock ∧ (l.endHeard from_).sup = l.sup
    ∧ (l.endHeard from_).settings = l.settings ∧ (l.endHeard from_).cass = l.cass
    ∧ (l.endHeard from_).transport = l.transport ∧ (l.endHeard from_).payout = l.payout
    ∧ (l.endHeard from_).drawer = l.drawer ∧ (l.endHeard from_).intake = l.intake
    ∧ (l.endHeard from_).journal = l.journal ∧ (l.endHeard from_).loops = l.loops
    ∧ (l.endHeard from_).drivers = l.drivers ∧ (l.endHeard from_).lockdown = l.lockdown
    ∧ (l.endHeard from_).ledgers = l.ledgers ∧ (l.endHeard from_).bus = l.bus
    ∧ (l.endHeard from_).free = l.free := by
  unfold Lane.endHeard
  dsimp only
  repeat' split
  all_goals simp [*]

@[simp] theorem Lane.emptiedHeard_frame (l : Lane) (from_ : Station) (epoch : Nat) :
    (l.emptiedHeard from_ epoch).clock = l.clock ∧ (l.emptiedHeard from_ epoch).sup = l.sup
    ∧ (l.emptiedHeard from_ epoch).settings = l.settings
    ∧ (l.emptiedHeard from_ epoch).cass = l.cass
    ∧ (l.emptiedHeard from_ epoch).transport = l.transport
    ∧ (l.emptiedHeard from_ epoch).payout = l.payout
    ∧ (l.emptiedHeard from_ epoch).drawer = l.drawer
    ∧ (l.emptiedHeard from_ epoch).intake = l.intake
    ∧ (l.emptiedHeard from_ epoch).journal.cells = l.journal.cells
    ∧ (l.emptiedHeard from_ epoch).loops = l.loops
    ∧ (l.emptiedHeard from_ epoch).drivers = l.drivers
    ∧ (l.emptiedHeard from_ epoch).lockdown = l.lockdown
    ∧ (l.emptiedHeard from_ epoch).ledgers.cash = l.ledgers.cash
    ∧ (l.emptiedHeard from_ epoch).bus = l.bus ∧ (l.emptiedHeard from_ epoch).free = l.free := by
  unfold Lane.emptiedHeard
  dsimp only
  repeat' split
  all_goals simp [*]

@[simp] theorem Lane.claimBegun_frame (l : Lane) (f : TxFrame) :
    (l.claimBegun f).clock = l.clock ∧ (l.claimBegun f).sup = l.sup
    ∧ (l.claimBegun f).settings = l.settings ∧ (l.claimBegun f).cass = l.cass
    ∧ (l.claimBegun f).transport = l.transport ∧ (l.claimBegun f).drawer = l.drawer
    ∧ (l.claimBegun f).intake = l.intake ∧ (l.claimBegun f).journal = l.journal
    ∧ (l.claimBegun f).loops = l.loops ∧ (l.claimBegun f).drivers = l.drivers
    ∧ (l.claimBegun f).lockdown = l.lockdown ∧ (l.claimBegun f).ledgers = l.ledgers
    ∧ (l.claimBegun f).bus = l.bus ∧ (l.claimBegun f).free = l.free := by
  unfold Lane.claimBegun
  dsimp only
  repeat' split
  all_goals simp [*]

@[simp] theorem Lane.startAttempt_frame (l : Lane) :
    l.startAttempt.clock = l.clock ∧ l.startAttempt.sup = l.sup
    ∧ l.startAttempt.settings = l.settings ∧ l.startAttempt.cass = l.cass
    ∧ l.startAttempt.transport = l.transport ∧ l.startAttempt.drawer = l.drawer
    ∧ l.startAttempt.intake = l.intake ∧ l.startAttempt.journal = l.journal
    ∧ l.startAttempt.loops = l.loops ∧ l.startAttempt.drivers = l.drivers
    ∧ l.startAttempt.lockdown = l.lockdown ∧ l.startAttempt.ledgers = l.ledgers
    ∧ l.startAttempt.bus.mute = l.bus.mute ∧ l.startAttempt.free = l.free := by
  unfold Lane.startAttempt
  dsimp only
  repeat' split
  all_goals simp [*]

@[simp] theorem Lane.dropped_frame (l : Lane) (f : TxFrame) :
    (l.dropped f).clock = l.clock ∧ (l.dropped f).sup = l.sup
    ∧ (l.dropped f).settings = l.settings ∧ (l.dropped f).cass = l.cass
    ∧ (l.dropped f).transport = l.transport ∧ (l.dropped f).drawer = l.drawer
    ∧ (l.dropped f).intake = l.intake ∧ (l.dropped f).journal.cells = l.journal.cells
    ∧ (l.dropped f).loops = l.loops ∧ (l.dropped f).lockdown = l.lockdown
    ∧ (l.dropped f).ledgers = l.ledgers ∧ (l.dropped f).bus.mute = l.bus.mute
    ∧ (l.dropped f).free = l.free := by
  unfold Lane.dropped
  dsimp only
  repeat' split
  all_goals simp [*]

@[simp] theorem Lane.sendOwned_frame (l : Lane) (body : TxBody) (tag : Tag) :
    (l.sendOwned body tag).clock = l.clock ∧ (l.sendOwned body tag).sup = l.sup
    ∧ (l.sendOwned body tag).settings = l.settings ∧ (l.sendOwned body tag).cass = l.cass
    ∧ (l.sendOwned body tag).transport = l.transport ∧ (l.sendOwned body tag).drawer = l.drawer
    ∧ (l.sendOwned body tag).intake = l.intake
    ∧ (l.sendOwned body tag).journal.cells = l.journal.cells
    ∧ (l.sendOwned body tag).loops = l.loops ∧ (l.sendOwned body tag).lockdown = l.lockdown
    ∧ (l.sendOwned body tag).ledgers = l.ledgers ∧ (l.sendOwned body tag).bus.mute = l.bus.mute
    ∧ (l.sendOwned body tag).free = l.free := by
  unfold Lane.sendOwned
  dsimp only
  repeat' split
  all_goals simp [*]

@[simp] theorem Lane.countDrop_frame (l : Lane) :
    l.countDrop.clock = l.clock ∧ l.countDrop.sup = l.sup ∧ l.countDrop.settings = l.settings
    ∧ l.countDrop.cass = l.cass ∧ l.countDrop.transport = l.transport
    ∧ l.countDrop.payout = l.payout ∧ l.countDrop.drawer = l.drawer
    ∧ l.countDrop.intake = l.intake ∧ l.countDrop.envelope = l.envelope
    ∧ l.countDrop.journal = l.journal ∧ l.countDrop.loops = l.loops
    ∧ l.countDrop.drivers = l.drivers ∧ l.countDrop.lockdown = l.lockdown
    ∧ l.countDrop.ledgers = l.ledgers ∧ l.countDrop.free = l.free := by
  unfold Lane.countDrop
  dsimp only
  simp [*]

@[simp] theorem Lane.attemptFailed_frame (l : Lane) :
    l.attemptFailed.clock = l.clock ∧ l.attemptFailed.sup = l.sup
    ∧ l.attemptFailed.settings = l.settings ∧ l.attemptFailed.cass = l.cass
    ∧ l.attemptFailed.transport = l.transport ∧ l.attemptFailed.drawer = l.drawer
    ∧ l.attemptFailed.intake = l.intake ∧ l.attemptFailed.journal.cells = l.journal.cells
    ∧ l.attemptFailed.loops = l.loops ∧ l.attemptFailed.lockdown = l.lockdown
    ∧ l.attemptFailed.ledgers = l.ledgers ∧ l.attemptFailed.free = l.free := by
  unfold Lane.attemptFailed
  repeat' split
  all_goals simp [*]

@[simp] theorem Lane.clash_frame (l : Lane) :
    l.clash.clock = l.clock ∧ l.clash.sup = l.sup ∧ l.clash.settings = l.settings
    ∧ l.clash.cass = l.cass ∧ l.clash.transport = l.transport ∧ l.clash.payout = l.payout
    ∧ l.clash.drawer = l.drawer ∧ l.clash.intake = l.intake ∧ l.clash.envelope = l.envelope
    ∧ l.clash.journal = l.journal ∧ l.clash.loops = l.loops ∧ l.clash.drivers = l.drivers
    ∧ l.clash.lockdown = l.lockdown ∧ l.clash.ledgers = l.ledgers ∧ l.clash.free = l.free := by
  unfold Lane.clash
  dsimp only
  simp [*]

@[simp] theorem Lane.countGood_frame (l : Lane) :
    l.countGood.clock = l.clock ∧ l.countGood.sup = l.sup ∧ l.countGood.settings = l.settings
    ∧ l.countGood.cass = l.cass ∧ l.countGood.transport = l.transport
    ∧ l.countGood.payout = l.payout ∧ l.countGood.drawer = l.drawer
    ∧ l.countGood.intake = l.intake ∧ l.countGood.envelope = l.envelope
    ∧ l.countGood.journal = l.journal ∧ l.countGood.loops = l.loops
    ∧ l.countGood.drivers = l.drivers ∧ l.countGood.lockdown = l.lockdown
    ∧ l.countGood.ledgers = l.ledgers ∧ l.countGood.free = l.free := by
  unfold Lane.countGood
  dsimp only
  repeat' split
  all_goals simp [*]

@[simp] theorem Lane.readBack_frame (l : Lane) :
    l.readBack.clock = l.clock ∧ l.readBack.sup = l.sup ∧ l.readBack.settings = l.settings
    ∧ l.readBack.cass = l.cass ∧ l.readBack.transport = l.transport ∧ l.readBack.payout = l.payout
    ∧ l.readBack.drawer = l.drawer ∧ l.readBack.intake = l.intake
    ∧ l.readBack.envelope = l.envelope ∧ l.readBack.journal = l.journal
    ∧ l.readBack.loops = l.loops ∧ l.readBack.drivers = l.drivers
    ∧ l.readBack.lockdown = l.lockdown ∧ l.readBack.ledgers = l.ledgers
    ∧ l.readBack.bus.mute = l.bus.mute ∧ l.readBack.free = l.free := by
  unfold Lane.readBack
  dsimp only
  simp [*]

@[simp] theorem Lane.plainReadback_frame (l : Lane) :
    l.plainReadback.clock = l.clock ∧ l.plainReadback.sup = l.sup
    ∧ l.plainReadback.settings = l.settings ∧ l.plainReadback.cass = l.cass
    ∧ l.plainReadback.transport = l.transport ∧ l.plainReadback.payout = l.payout
    ∧ l.plainReadback.drawer = l.drawer ∧ l.plainReadback.intake = l.intake
    ∧ l.plainReadback.envelope = l.envelope ∧ l.plainReadback.journal = l.journal
    ∧ l.plainReadback.loops = l.loops ∧ l.plainReadback.drivers = l.drivers
    ∧ l.plainReadback.lockdown = l.lockdown ∧ l.plainReadback.ledgers = l.ledgers
    ∧ l.plainReadback.bus.mute = l.bus.mute ∧ l.plainReadback.free = l.free := by
  unfold Lane.plainReadback
  dsimp only
  repeat' split
  all_goals simp [*]

@[simp] theorem Lane.decideCash_frame (l : Lane) (p : Payout) :
    (l.decideCash p).clock = l.clock ∧ (l.decideCash p).sup = l.sup
    ∧ (l.decideCash p).settings = l.settings ∧ (l.decideCash p).cass = l.cass
    ∧ (l.decideCash p).intake = l.intake ∧ (l.decideCash p).envelope = l.envelope
    ∧ (l.decideCash p).journal.cells = l.journal.cells ∧ (l.decideCash p).loops = l.loops
    ∧ (l.decideCash p).lockdown = l.lockdown ∧ (l.decideCash p).bus.mute = l.bus.mute
    ∧ (l.decideCash p).free = l.free := by
  unfold Lane.decideCash
  dsimp only
  repeat' split
  all_goals simp [*]

@[simp] theorem Lane.cashReadback_frame (l : Lane) :
    l.cashReadback.clock = l.clock ∧ l.cashReadback.sup = l.sup
    ∧ l.cashReadback.settings = l.settings ∧ l.cashReadback.cass = l.cass
    ∧ l.cashReadback.intake = l.intake ∧ l.cashReadback.envelope = l.envelope
    ∧ l.cashReadback.journal.cells = l.journal.cells ∧ l.cashReadback.loops = l.loops
    ∧ l.cashReadback.lockdown = l.lockdown ∧ l.cashReadback.bus.mute = l.bus.mute
    ∧ l.cashReadback.free = l.free := by
  unfold Lane.cashReadback
  dsimp only
  repeat' split
  all_goals simp [*]

@[simp] theorem Lane.openSlot_frame (l : Lane) (r : EnvelopeRecord) :
    (l.openSlot r).clock = l.clock ∧ (l.openSlot r).sup = l.sup
    ∧ (l.openSlot r).settings = l.settings ∧ (l.openSlot r).cass = l.cass
    ∧ (l.openSlot r).transport = l.transport ∧ (l.openSlot r).payout = l.payout
    ∧ (l.openSlot r).drawer = l.drawer ∧ (l.openSlot r).intake = l.intake
    ∧ (l.openSlot r).journal = l.journal ∧ (l.openSlot r).loops = l.loops
    ∧ (l.openSlot r).lockdown = l.lockdown ∧ (l.openSlot r).ledgers = l.ledgers
    ∧ (l.openSlot r).bus.mute = l.bus.mute ∧ (l.openSlot r).free = l.free := by
  unfold Lane.openSlot
  dsimp only
  simp [*]

@[simp] theorem Lane.refuseSlot_frame (l : Lane) (r : EnvelopeRecord) (code : ReplyCode) :
    (l.refuseSlot r code).clock = l.clock ∧ (l.refuseSlot r code).sup = l.sup
    ∧ (l.refuseSlot r code).settings = l.settings ∧ (l.refuseSlot r code).cass = l.cass
    ∧ (l.refuseSlot r code).transport = l.transport ∧ (l.refuseSlot r code).payout = l.payout
    ∧ (l.refuseSlot r code).drawer = l.drawer ∧ (l.refuseSlot r code).intake = l.intake
    ∧ (l.refuseSlot r code).journal.cells = l.journal.cells
    ∧ (l.refuseSlot r code).loops = l.loops ∧ (l.refuseSlot r code).drivers = l.drivers
    ∧ (l.refuseSlot r code).lockdown = l.lockdown
    ∧ (l.refuseSlot r code).ledgers.cash = l.ledgers.cash
    ∧ (l.refuseSlot r code).bus.mute = l.bus.mute ∧ (l.refuseSlot r code).free = l.free := by
  unfold Lane.refuseSlot
  dsimp only
  simp [*]

@[simp] theorem Lane.placeReadback_frame (l : Lane) :
    l.placeReadback.clock = l.clock ∧ l.placeReadback.sup = l.sup
    ∧ l.placeReadback.settings = l.settings ∧ l.placeReadback.cass = l.cass
    ∧ l.placeReadback.transport = l.transport ∧ l.placeReadback.payout = l.payout
    ∧ l.placeReadback.drawer = l.drawer ∧ l.placeReadback.intake = l.intake
    ∧ l.placeReadback.journal.cells = l.journal.cells ∧ l.placeReadback.loops = l.loops
    ∧ l.placeReadback.lockdown = l.lockdown ∧ l.placeReadback.ledgers.cash = l.ledgers.cash
    ∧ l.placeReadback.bus.mute = l.bus.mute ∧ l.placeReadback.free = l.free := by
  unfold Lane.placeReadback
  dsimp only
  repeat' split
  all_goals simp [*]

@[simp] theorem Lane.replySupervisor_frame (l : Lane) (tag : Tag) (kind : Fin 32) (code : ReplyCode)
    :
    (l.replySupervisor tag kind code).clock = l.clock
    ∧ (l.replySupervisor tag kind code).sup = l.sup
    ∧ (l.replySupervisor tag kind code).settings = l.settings
    ∧ (l.replySupervisor tag kind code).cass = l.cass
    ∧ (l.replySupervisor tag kind code).transport = l.transport
    ∧ (l.replySupervisor tag kind code).payout = l.payout
    ∧ (l.replySupervisor tag kind code).drawer = l.drawer
    ∧ (l.replySupervisor tag kind code).intake = l.intake
    ∧ (l.replySupervisor tag kind code).envelope = l.envelope
    ∧ (l.replySupervisor tag kind code).journal = l.journal
    ∧ (l.replySupervisor tag kind code).loops = l.loops
    ∧ (l.replySupervisor tag kind code).drivers = l.drivers
    ∧ (l.replySupervisor tag kind code).lockdown = l.lockdown
    ∧ (l.replySupervisor tag kind code).ledgers = l.ledgers
    ∧ (l.replySupervisor tag kind code).bus.mute = l.bus.mute
    ∧ (l.replySupervisor tag kind code).free = l.free := by
  unfold Lane.replySupervisor
  repeat' split
  all_goals simp [*]

@[simp] theorem Lane.beginReadback_frame (l : Lane) :
    l.beginReadback.clock = l.clock ∧ l.beginReadback.sup = l.sup
    ∧ l.beginReadback.settings = l.settings ∧ l.beginReadback.cass = l.cass
    ∧ l.beginReadback.transport = l.transport ∧ l.beginReadback.payout = l.payout
    ∧ l.beginReadback.drawer = l.drawer ∧ l.beginReadback.intake = l.intake
    ∧ l.beginReadback.journal.cells = l.journal.cells ∧ l.beginReadback.loops = l.loops
    ∧ l.beginReadback.lockdown = l.lockdown ∧ l.beginReadback.ledgers.cash = l.ledgers.cash
    ∧ l.beginReadback.bus.mute = l.bus.mute ∧ l.beginReadback.free = l.free := by
  unfold Lane.beginReadback
  dsimp only
  repeat' split
  all_goals simp [*]

@[simp] theorem Lane.endReadback_frame (l : Lane) :
    l.endReadback.clock = l.clock ∧ l.endReadback.sup = l.sup
    ∧ l.endReadback.settings = l.settings ∧ l.endReadback.cass = l.cass
    ∧ l.endReadback.transport = l.transport ∧ l.endReadback.payout = l.payout
    ∧ l.endReadback.drawer = l.drawer ∧ l.endReadback.intake = l.intake
    ∧ l.endReadback.journal.cells = l.journal.cells ∧ l.endReadback.loops = l.loops
    ∧ l.endReadback.lockdown = l.lockdown ∧ l.endReadback.ledgers.cash = l.ledgers.cash
    ∧ l.endReadback.bus.mute = l.bus.mute ∧ l.endReadback.free = l.free := by
  unfold Lane.endReadback
  dsimp only
  repeat' split
  all_goals simp [*]

@[simp] theorem Lane.lockdownFrame_frame (l : Lane) (from_ : Station) (origin : Option LoopOrigin) :
    (l.lockdownFrame from_ origin).clock = l.clock ∧ (l.lockdownFrame from_ origin).sup = l.sup
    ∧ (l.lockdownFrame from_ origin).settings = l.settings
    ∧ (l.lockdownFrame from_ origin).cass = l.cass
    ∧ (l.lockdownFrame from_ origin).journal.cells = l.journal.cells
    ∧ (l.lockdownFrame from_ origin).loops = l.loops
    ∧ (l.lockdownFrame from_ origin).free = l.free := by
  unfold Lane.lockdownFrame
  repeat' split
  all_goals simp [*]

@[simp] theorem Lane.stationHeard_frame (l : Lane) (from_ : Station) :
    (l.stationHeard from_).clock = l.clock ∧ (l.stationHeard from_).sup = l.sup
    ∧ (l.stationHeard from_).settings = l.settings ∧ (l.stationHeard from_).cass = l.cass
    ∧ (l.stationHeard from_).transport = l.transport ∧ (l.stationHeard from_).payout = l.payout
    ∧ (l.stationHeard from_).drawer = l.drawer ∧ (l.stationHeard from_).intake = l.intake
    ∧ (l.stationHeard from_).envelope = l.envelope ∧ (l.stationHeard from_).journal = l.journal
    ∧ (l.stationHeard from_).loops = l.loops ∧ (l.stationHeard from_).drivers = l.drivers
    ∧ (l.stationHeard from_).lockdown = l.lockdown
    ∧ (l.stationHeard from_).ledgers.cash = l.ledgers.cash ∧ (l.stationHeard from_).free = l.free := by
  unfold Lane.stationHeard
  repeat' split
  all_goals simp [*]

@[simp] theorem Lane.followDriverCause_frame (l : Lane) :
    l.followDriverCause.clock = l.clock ∧ l.followDriverCause.sup.lane = l.sup.lane
    ∧ l.followDriverCause.sup.laneCount = l.sup.laneCount
    ∧ l.followDriverCause.sup.scanning = l.sup.scanning
    ∧ l.followDriverCause.sup.homing = l.sup.homing ∧ l.followDriverCause.settings = l.settings
    ∧ l.followDriverCause.cass = l.cass ∧ l.followDriverCause.transport = l.transport
    ∧ l.followDriverCause.drawer = l.drawer ∧ l.followDriverCause.intake = l.intake
    ∧ l.followDriverCause.journal.cells = l.journal.cells ∧ l.followDriverCause.loops = l.loops
    ∧ l.followDriverCause.lockdown = l.lockdown
    ∧ l.followDriverCause.ledgers.cash = l.ledgers.cash
    ∧ l.followDriverCause.bus.mute = l.bus.mute ∧ l.followDriverCause.free = l.free := by
  unfold Lane.followDriverCause
  repeat' split
  all_goals simp [*]

@[simp] theorem Lane.noticeTimes_frame (l : Lane) (n : Notice) (k : Nat) :
    (l.noticeTimes n k).clock = l.clock ∧ (l.noticeTimes n k).sup = l.sup
    ∧ (l.noticeTimes n k).settings = l.settings ∧ (l.noticeTimes n k).cass = l.cass
    ∧ (l.noticeTimes n k).transport = l.transport ∧ (l.noticeTimes n k).payout = l.payout
    ∧ (l.noticeTimes n k).drawer = l.drawer ∧ (l.noticeTimes n k).intake = l.intake
    ∧ (l.noticeTimes n k).envelope = l.envelope ∧ (l.noticeTimes n k).journal = l.journal
    ∧ (l.noticeTimes n k).loops = l.loops ∧ (l.noticeTimes n k).drivers = l.drivers
    ∧ (l.noticeTimes n k).lockdown = l.lockdown ∧ (l.noticeTimes n k).ledgers = l.ledgers
    ∧ (l.noticeTimes n k).bus.mute = l.bus.mute ∧ (l.noticeTimes n k).free = l.free := by
  induction k generalizing l <;> simp [Lane.noticeTimes, *]

@[simp] theorem Lane.latch_frame (l : Lane) (d : Driver) (kinds : FaultSet) :
    (l.latch d kinds).clock = l.clock ∧ (l.latch d kinds).sup = l.sup
    ∧ (l.latch d kinds).settings = l.settings ∧ (l.latch d kinds).cass = l.cass
    ∧ (l.latch d kinds).transport = l.transport ∧ (l.latch d kinds).payout = l.payout
    ∧ (l.latch d kinds).drawer = l.drawer ∧ (l.latch d kinds).intake = l.intake
    ∧ (l.latch d kinds).envelope = l.envelope ∧ (l.latch d kinds).journal = l.journal
    ∧ (l.latch d kinds).loops = l.loops ∧ (l.latch d kinds).lockdown = l.lockdown
    ∧ (l.latch d kinds).ledgers = l.ledgers ∧ (l.latch d kinds).bus.mute = l.bus.mute
    ∧ (l.latch d kinds).free = l.free := by
  unfold Lane.latch
  dsimp only
  simp [*]

@[simp] theorem Lane.latchActs_frame (l : Lane) (envelope : Bool) :
    (l.latchActs envelope).clock = l.clock ∧ (l.latchActs envelope).sup.lane = l.sup.lane
    ∧ (l.latchActs envelope).sup.laneCount = l.sup.laneCount
    ∧ (l.latchActs envelope).sup.scanning = l.sup.scanning
    ∧ (l.latchActs envelope).sup.homing = l.sup.homing
    ∧ (l.latchActs envelope).settings = l.settings ∧ (l.latchActs envelope).cass = l.cass
    ∧ (l.latchActs envelope).transport = l.transport ∧ (l.latchActs envelope).drawer = l.drawer
    ∧ (l.latchActs envelope).intake = l.intake
    ∧ (l.latchActs envelope).journal.cells = l.journal.cells
    ∧ (l.latchActs envelope).loops = l.loops ∧ (l.latchActs envelope).lockdown = l.lockdown
    ∧ (l.latchActs envelope).ledgers.cash = l.ledgers.cash
    ∧ (l.latchActs envelope).bus.mute = l.bus.mute ∧ (l.latchActs envelope).free = l.free := by
  unfold Lane.latchActs
  repeat' split
  all_goals simp [*]

@[simp] theorem Lane.enterLive_frame (l : Lane) (d : Driver) (kinds : FaultSet) :
    (l.enterLive d kinds).clock = l.clock ∧ (l.enterLive d kinds).sup.lane = l.sup.lane
    ∧ (l.enterLive d kinds).sup.laneCount = l.sup.laneCount
    ∧ (l.enterLive d kinds).sup.scanning = l.sup.scanning
    ∧ (l.enterLive d kinds).sup.homing = l.sup.homing
    ∧ (l.enterLive d kinds).settings = l.settings ∧ (l.enterLive d kinds).cass = l.cass
    ∧ (l.enterLive d kinds).transport = l.transport ∧ (l.enterLive d kinds).drawer = l.drawer
    ∧ (l.enterLive d kinds).intake = l.intake
    ∧ (l.enterLive d kinds).journal.cells = l.journal.cells
    ∧ (l.enterLive d kinds).loops = l.loops ∧ (l.enterLive d kinds).lockdown = l.lockdown
    ∧ (l.enterLive d kinds).ledgers.cash = l.ledgers.cash
    ∧ (l.enterLive d kinds).bus.mute = l.bus.mute ∧ (l.enterLive d kinds).free = l.free := by
  unfold Lane.enterLive
  repeat' split
  all_goals simp [*]

@[simp] theorem Lane.stageReport_frame (l : Lane) (d : Driver) (c : Condition) (appears : Bool) :
    (l.stageReport d c appears).clock = l.clock
    ∧ (l.stageReport d c appears).sup.lane = l.sup.lane
    ∧ (l.stageReport d c appears).sup.laneCount = l.sup.laneCount
    ∧ (l.stageReport d c appears).sup.scanning = l.sup.scanning
    ∧ (l.stageReport d c appears).sup.homing = l.sup.homing
    ∧ (l.stageReport d c appears).settings = l.settings
    ∧ (l.stageReport d c appears).cass = l.cass
    ∧ (l.stageReport d c appears).transport = l.transport
    ∧ (l.stageReport d c appears).drawer = l.drawer
    ∧ (l.stageReport d c appears).intake = l.intake
    ∧ (l.stageReport d c appears).journal.cells = l.journal.cells
    ∧ (l.stageReport d c appears).loops = l.loops
    ∧ (l.stageReport d c appears).lockdown = l.lockdown
    ∧ (l.stageReport d c appears).ledgers.cash = l.ledgers.cash
    ∧ (l.stageReport d c appears).bus.mute = l.bus.mute
    ∧ (l.stageReport d c appears).free = l.free := by
  unfold Lane.stageReport
  dsimp only
  repeat' split
  all_goals simp [*]

@[simp] theorem Lane.blankingOver_frame (l : Lane) (d : Driver) :
    (l.blankingOver d).clock = l.clock ∧ (l.blankingOver d).sup.lane = l.sup.lane
    ∧ (l.blankingOver d).sup.laneCount = l.sup.laneCount
    ∧ (l.blankingOver d).sup.scanning = l.sup.scanning
    ∧ (l.blankingOver d).sup.homing = l.sup.homing ∧ (l.blankingOver d).settings = l.settings
    ∧ (l.blankingOver d).cass = l.cass ∧ (l.blankingOver d).transport = l.transport
    ∧ (l.blankingOver d).drawer = l.drawer ∧ (l.blankingOver d).intake = l.intake
    ∧ (l.blankingOver d).journal.cells = l.journal.cells ∧ (l.blankingOver d).loops = l.loops
    ∧ (l.blankingOver d).lockdown = l.lockdown ∧ (l.blankingOver d).ledgers.cash = l.ledgers.cash
    ∧ (l.blankingOver d).bus.mute = l.bus.mute ∧ (l.blankingOver d).free = l.free := by
  unfold Lane.blankingOver
  dsimp only
  repeat' split
  all_goals simp [*]

@[simp] theorem Lane.heat_frame (l : Lane) (d : Driver) :
    (l.heat d).clock = l.clock ∧ (l.heat d).sup = l.sup ∧ (l.heat d).settings = l.settings
    ∧ (l.heat d).cass = l.cass ∧ (l.heat d).transport = l.transport ∧ (l.heat d).payout = l.payout
    ∧ (l.heat d).drawer = l.drawer ∧ (l.heat d).intake = l.intake
    ∧ (l.heat d).envelope = l.envelope ∧ (l.heat d).journal = l.journal
    ∧ (l.heat d).loops = l.loops ∧ (l.heat d).lockdown = l.lockdown
    ∧ (l.heat d).ledgers = l.ledgers ∧ (l.heat d).bus.mute = l.bus.mute ∧ (l.heat d).free = l.free := by
  unfold Lane.heat
  simp [*]

@[simp] theorem Lane.hotReport_frame (l : Lane) :
    l.hotReport.clock = l.clock ∧ l.hotReport.sup.lane = l.sup.lane
    ∧ l.hotReport.sup.laneCount = l.sup.laneCount ∧ l.hotReport.sup.scanning = l.sup.scanning
    ∧ l.hotReport.sup.homing = l.sup.homing ∧ l.hotReport.settings = l.settings
    ∧ l.hotReport.cass = l.cass ∧ l.hotReport.transport = l.transport
    ∧ l.hotReport.drawer = l.drawer ∧ l.hotReport.intake = l.intake
    ∧ l.hotReport.journal.cells = l.journal.cells ∧ l.hotReport.loops = l.loops
    ∧ l.hotReport.lockdown = l.lockdown ∧ l.hotReport.ledgers.cash = l.ledgers.cash
    ∧ l.hotReport.bus.mute = l.bus.mute ∧ l.hotReport.free = l.free := by
  unfold Lane.hotReport
  split <;> simp [Sys2Proof.drivers]

@[simp] theorem Lane.checkDriver_frame (l : Lane) (d : Driver) :
    (l.checkDriver d).clock = l.clock ∧ (l.checkDriver d).sup.lane = l.sup.lane
    ∧ (l.checkDriver d).sup.laneCount = l.sup.laneCount
    ∧ (l.checkDriver d).sup.scanning = l.sup.scanning
    ∧ (l.checkDriver d).sup.homing = l.sup.homing ∧ (l.checkDriver d).settings = l.settings
    ∧ (l.checkDriver d).cass = l.cass ∧ (l.checkDriver d).transport = l.transport
    ∧ (l.checkDriver d).drawer = l.drawer ∧ (l.checkDriver d).intake = l.intake
    ∧ (l.checkDriver d).journal.cells = l.journal.cells ∧ (l.checkDriver d).loops = l.loops
    ∧ (l.checkDriver d).lockdown = l.lockdown ∧ (l.checkDriver d).ledgers.cash = l.ledgers.cash
    ∧ (l.checkDriver d).bus.mute = l.bus.mute ∧ (l.checkDriver d).free = l.free := by
  unfold Lane.checkDriver
  dsimp only
  repeat' split
  all_goals simp [*]

@[simp] theorem Lane.offStateCheck_frame (l : Lane) :
    l.offStateCheck.clock = l.clock ∧ l.offStateCheck.sup.lane = l.sup.lane
    ∧ l.offStateCheck.sup.laneCount = l.sup.laneCount
    ∧ l.offStateCheck.sup.scanning = l.sup.scanning ∧ l.offStateCheck.sup.homing = l.sup.homing
    ∧ l.offStateCheck.settings = l.settings ∧ l.offStateCheck.cass = l.cass
    ∧ l.offStateCheck.transport = l.transport ∧ l.offStateCheck.drawer = l.drawer
    ∧ l.offStateCheck.intake = l.intake ∧ l.offStateCheck.journal.cells = l.journal.cells
    ∧ l.offStateCheck.loops = l.loops ∧ l.offStateCheck.lockdown = l.lockdown
    ∧ l.offStateCheck.ledgers.cash = l.ledgers.cash ∧ l.offStateCheck.bus.mute = l.bus.mute
    ∧ l.offStateCheck.free = l.free := by
  simp [Lane.offStateCheck, Sys2Proof.drivers]

@[simp] theorem Lane.carryEnvelope_frame (l : Lane) :
    l.carryEnvelope.clock = l.clock ∧ l.carryEnvelope.sup = l.sup
    ∧ l.carryEnvelope.settings = l.settings ∧ l.carryEnvelope.cass = l.cass
    ∧ l.carryEnvelope.transport = l.transport ∧ l.carryEnvelope.payout = l.payout
    ∧ l.carryEnvelope.drawer = l.drawer ∧ l.carryEnvelope.intake = l.intake
    ∧ l.carryEnvelope.journal = l.journal ∧ l.carryEnvelope.loops = l.loops
    ∧ l.carryEnvelope.lockdown = l.lockdown ∧ l.carryEnvelope.ledgers = l.ledgers
    ∧ l.carryEnvelope.bus = l.bus ∧ l.carryEnvelope.free = l.free := by
  unfold Lane.carryEnvelope
  dsimp only
  simp [*]

@[simp] theorem Lane.carryEnds_frame (l : Lane) (reported : Bool) :
    (l.carryEnds reported).clock = l.clock ∧ (l.carryEnds reported).sup.service = l.sup.service
    ∧ (l.carryEnds reported).sup.lane = l.sup.lane
    ∧ (l.carryEnds reported).sup.laneCount = l.sup.laneCount
    ∧ (l.carryEnds reported).sup.causes = l.sup.causes
    ∧ (l.carryEnds reported).sup.scanning = l.sup.scanning
    ∧ (l.carryEnds reported).settings = l.settings ∧ (l.carryEnds reported).cass = l.cass
    ∧ (l.carryEnds reported).transport = l.transport ∧ (l.carryEnds reported).payout = l.payout
    ∧ (l.carryEnds reported).drawer = l.drawer ∧ (l.carryEnds reported).intake = l.intake
    ∧ (l.carryEnds reported).journal = l.journal ∧ (l.carryEnds reported).loops = l.loops
    ∧ (l.carryEnds reported).lockdown = l.lockdown
    ∧ (l.carryEnds reported).ledgers.cash = l.ledgers.cash ∧ (l.carryEnds reported).bus = l.bus
    ∧ (l.carryEnds reported).free = l.free := by
  unfold Lane.carryEnds
  dsimp only
  simp [*]

@[simp] theorem Lane.dropSeen_frame (l : Lane) (reported : Bool) :
    (l.dropSeen reported).clock = l.clock ∧ (l.dropSeen reported).sup = l.sup
    ∧ (l.dropSeen reported).settings = l.settings ∧ (l.dropSeen reported).cass = l.cass
    ∧ (l.dropSeen reported).transport = l.transport ∧ (l.dropSeen reported).payout = l.payout
    ∧ (l.dropSeen reported).drawer = l.drawer ∧ (l.dropSeen reported).intake = l.intake
    ∧ (l.dropSeen reported).journal = l.journal ∧ (l.dropSeen reported).loops = l.loops
    ∧ (l.dropSeen reported).drivers = l.drivers ∧ (l.dropSeen reported).lockdown = l.lockdown
    ∧ (l.dropSeen reported).ledgers = l.ledgers ∧ (l.dropSeen reported).bus = l.bus
    ∧ (l.dropSeen reported).free = l.free := by
  unfold Lane.dropSeen
  dsimp only
  repeat' split
  all_goals simp [*]

@[simp] theorem Lane.envelopeStep_frame (l : Lane) :
    l.envelopeStep.clock = l.clock ∧ l.envelopeStep.sup.service = l.sup.service
    ∧ l.envelopeStep.sup.lane = l.sup.lane ∧ l.envelopeStep.sup.laneCount = l.sup.laneCount
    ∧ l.envelopeStep.sup.causes = l.sup.causes ∧ l.envelopeStep.sup.scanning = l.sup.scanning
    ∧ l.envelopeStep.settings = l.settings ∧ l.envelopeStep.cass = l.cass
    ∧ l.envelopeStep.transport = l.transport ∧ l.envelopeStep.payout = l.payout
    ∧ l.envelopeStep.drawer = l.drawer ∧ l.envelopeStep.intake = l.intake
    ∧ l.envelopeStep.journal = l.journal ∧ l.envelopeStep.loops = l.loops
    ∧ l.envelopeStep.lockdown = l.lockdown ∧ l.envelopeStep.ledgers = l.ledgers
    ∧ l.envelopeStep.bus = l.bus ∧ l.envelopeStep.free = l.free := by
  unfold Lane.envelopeStep
  dsimp only
  repeat' split
  all_goals simp [*]

@[simp] theorem Lane.drawerStep_frame (l : Lane) :
    l.drawerStep.clock = l.clock ∧ l.drawerStep.sup.service = l.sup.service
    ∧ l.drawerStep.sup.lane = l.sup.lane ∧ l.drawerStep.sup.laneCount = l.sup.laneCount
    ∧ l.drawerStep.sup.scanning = l.sup.scanning ∧ l.drawerStep.settings = l.settings
    ∧ l.drawerStep.cass = l.cass ∧ l.drawerStep.envelope = l.envelope
    ∧ l.drawerStep.journal.cells = l.journal.cells ∧ l.drawerStep.loops = l.loops
    ∧ l.drawerStep.lockdown = l.lockdown ∧ l.drawerStep.bus.mute = l.bus.mute
    ∧ l.drawerStep.free = l.free := by
  unfold Lane.drawerStep
  simp [*]

@[simp] theorem Lane.moduleOver_frame (l : Lane) :
    l.moduleOver.clock = l.clock ∧ l.moduleOver.sup.service = l.sup.service
    ∧ l.moduleOver.sup.lane = l.sup.lane ∧ l.moduleOver.sup.laneCount = l.sup.laneCount
    ∧ l.moduleOver.sup.scanning = l.sup.scanning ∧ l.moduleOver.settings = l.settings
    ∧ l.moduleOver.cass = l.cass ∧ l.moduleOver.envelope = l.envelope
    ∧ l.moduleOver.journal.cells = l.journal.cells ∧ l.moduleOver.loops = l.loops
    ∧ l.moduleOver.lockdown = l.lockdown ∧ l.moduleOver.bus.mute = l.bus.mute
    ∧ l.moduleOver.free = l.free := by
  unfold Lane.moduleOver
  repeat' split
  all_goals simp [*]

@[simp] theorem Lane.moduleStopped_frame (l : Lane) (fromStacker : Bool) :
    (l.moduleStopped fromStacker).clock = l.clock
    ∧ (l.moduleStopped fromStacker).sup.service = l.sup.service
    ∧ (l.moduleStopped fromStacker).sup.lane = l.sup.lane
    ∧ (l.moduleStopped fromStacker).sup.laneCount = l.sup.laneCount
    ∧ (l.moduleStopped fromStacker).sup.scanning = l.sup.scanning
    ∧ (l.moduleStopped fromStacker).settings = l.settings
    ∧ (l.moduleStopped fromStacker).cass = l.cass
    ∧ (l.moduleStopped fromStacker).envelope = l.envelope
    ∧ (l.moduleStopped fromStacker).journal.cells = l.journal.cells
    ∧ (l.moduleStopped fromStacker).loops = l.loops
    ∧ (l.moduleStopped fromStacker).lockdown = l.lockdown
    ∧ (l.moduleStopped fromStacker).bus.mute = l.bus.mute := by
  unfold Lane.moduleStopped
  dsimp only
  repeat' split
  all_goals simp [*]

@[simp] theorem Lane.homingJam_frame (l : Lane) :
    l.homingJam.clock = l.clock ∧ l.homingJam.sup.lane = l.sup.lane
    ∧ l.homingJam.sup.laneCount = l.sup.laneCount ∧ l.homingJam.sup.scanning = l.sup.scanning
    ∧ l.homingJam.settings = l.settings ∧ l.homingJam.cass = l.cass
    ∧ l.homingJam.journal.cells = l.journal.cells ∧ l.homingJam.loops = l.loops
    ∧ l.homingJam.lockdown = l.lockdown ∧ l.homingJam.bus.mute = l.bus.mute := by
  unfold Lane.homingJam
  dsimp only
  repeat' split
  all_goals simp [*]

@[simp] theorem Lane.moduleDelivery_frame (l : Lane) (fromStacker : Bool) :
    (l.moduleDelivery fromStacker).clock = l.clock
    ∧ (l.moduleDelivery fromStacker).sup.lane = l.sup.lane
    ∧ (l.moduleDelivery fromStacker).sup.laneCount = l.sup.laneCount
    ∧ (l.moduleDelivery fromStacker).sup.scanning = l.sup.scanning
    ∧ (l.moduleDelivery fromStacker).settings = l.settings
    ∧ (l.moduleDelivery fromStacker).journal.cells = l.journal.cells
    ∧ (l.moduleDelivery fromStacker).loops = l.loops
    ∧ (l.moduleDelivery fromStacker).lockdown = l.lockdown
    ∧ (l.moduleDelivery fromStacker).bus.mute = l.bus.mute := by
  unfold Lane.moduleDelivery Lane.binAccept
  cases hb : l.binRoom <;> simp only [if_true, if_false, Bool.false_eq_true] <;> simp [*]

@[simp] theorem Lane.escrowDelivery_frame (l : Lane) :
    l.escrowDelivery.clock = l.clock ∧ l.escrowDelivery.sup.lane = l.sup.lane
    ∧ l.escrowDelivery.sup.laneCount = l.sup.laneCount
    ∧ l.escrowDelivery.sup.scanning = l.sup.scanning ∧ l.escrowDelivery.settings = l.settings
    ∧ l.escrowDelivery.transport = l.transport ∧ l.escrowDelivery.drawer = l.drawer
    ∧ l.escrowDelivery.intake = l.intake ∧ l.escrowDelivery.journal.cells = l.journal.cells
    ∧ l.escrowDelivery.loops = l.loops ∧ l.escrowDelivery.lockdown = l.lockdown
    ∧ l.escrowDelivery.ledgers.cash = l.ledgers.cash ∧ l.escrowDelivery.bus.mute = l.bus.mute
    ∧ l.escrowDelivery.free = l.free := by
  unfold Lane.escrowDelivery Lane.binAccept
  cases hb : l.binRoom <;> simp only [if_true, if_false, Bool.false_eq_true] <;> simp [*]

@[simp] theorem Lane.homingDelivery_frame (l : Lane) (source : NoteSource) :
    (l.homingDelivery source).clock = l.clock ∧ (l.homingDelivery source).sup.lane = l.sup.lane
    ∧ (l.homingDelivery source).sup.laneCount = l.sup.laneCount
    ∧ (l.homingDelivery source).sup.scanning = l.sup.scanning
    ∧ (l.homingDelivery source).settings = l.settings
    ∧ (l.homingDelivery source).journal.cells = l.journal.cells
    ∧ (l.homingDelivery source).loops = l.loops ∧ (l.homingDelivery source).lockdown = l.lockdown
    ∧ (l.homingDelivery source).bus.mute = l.bus.mute := by
  unfold Lane.homingDelivery
  repeat' split
  all_goals simp [*]

@[simp] theorem Lane.homingDrop_frame (l : Lane) (reported : Bool) :
    (l.homingDrop reported).clock = l.clock ∧ (l.homingDrop reported).sup.service = l.sup.service
    ∧ (l.homingDrop reported).sup.lane = l.sup.lane
    ∧ (l.homingDrop reported).sup.laneCount = l.sup.laneCount
    ∧ (l.homingDrop reported).sup.causes = l.sup.causes
    ∧ (l.homingDrop reported).sup.scanning = l.sup.scanning
    ∧ (l.homingDrop reported).settings = l.settings ∧ (l.homingDrop reported).cass = l.cass
    ∧ (l.homingDrop reported).transport = l.transport ∧ (l.homingDrop reported).payout = l.payout
    ∧ (l.homingDrop reported).drawer = l.drawer ∧ (l.homingDrop reported).intake = l.intake
    ∧ (l.homingDrop reported).journal = l.journal ∧ (l.homingDrop reported).loops = l.loops
    ∧ (l.homingDrop reported).lockdown = l.lockdown
    ∧ (l.homingDrop reported).ledgers.cash = l.ledgers.cash ∧ (l.homingDrop reported).bus = l.bus
    ∧ (l.homingDrop reported).free = l.free := by
  unfold Lane.homingDrop
  dsimp only
  repeat' split
  all_goals simp [*]

@[simp] theorem Lane.homeDrawer_frame (l : Lane) :
    l.homeDrawer.clock = l.clock ∧ l.homeDrawer.sup.service = l.sup.service
    ∧ l.homeDrawer.sup.lane = l.sup.lane ∧ l.homeDrawer.sup.laneCount = l.sup.laneCount
    ∧ l.homeDrawer.sup.scanning = l.sup.scanning ∧ l.homeDrawer.settings = l.settings
    ∧ l.homeDrawer.cass = l.cass ∧ l.homeDrawer.envelope = l.envelope
    ∧ l.homeDrawer.journal.cells = l.journal.cells ∧ l.homeDrawer.loops = l.loops
    ∧ l.homeDrawer.lockdown = l.lockdown ∧ l.homeDrawer.bus.mute = l.bus.mute
    ∧ l.homeDrawer.free = l.free := by
  unfold Lane.homeDrawer
  dsimp only
  repeat' split
  all_goals simp [*]

@[simp] theorem Lane.homeEnvelope_frame (l : Lane) :
    l.homeEnvelope.clock = l.clock ∧ l.homeEnvelope.sup.service = l.sup.service
    ∧ l.homeEnvelope.sup.lane = l.sup.lane ∧ l.homeEnvelope.sup.laneCount = l.sup.laneCount
    ∧ l.homeEnvelope.sup.causes = l.sup.causes ∧ l.homeEnvelope.sup.scanning = l.sup.scanning
    ∧ l.homeEnvelope.settings = l.settings ∧ l.homeEnvelope.cass = l.cass
    ∧ l.homeEnvelope.transport = l.transport ∧ l.homeEnvelope.payout = l.payout
    ∧ l.homeEnvelope.drawer = l.drawer ∧ l.homeEnvelope.intake = l.intake
    ∧ l.homeEnvelope.journal = l.journal ∧ l.homeEnvelope.loops = l.loops
    ∧ l.homeEnvelope.lockdown = l.lockdown ∧ l.homeEnvelope.ledgers.cash = l.ledgers.cash
    ∧ l.homeEnvelope.bus = l.bus ∧ l.homeEnvelope.free = l.free := by
  unfold Lane.homeEnvelope
  repeat' split
  all_goals simp [*]

@[simp] theorem Lane.interruptLine_frame (l : Lane) :
    l.interruptLine.clock = l.clock ∧ l.interruptLine.sup = l.sup
    ∧ l.interruptLine.settings = l.settings ∧ l.interruptLine.cass = l.cass
    ∧ l.interruptLine.transport = l.transport ∧ l.interruptLine.payout = l.payout
    ∧ l.interruptLine.drawer = l.drawer ∧ l.interruptLine.intake = l.intake
    ∧ l.interruptLine.envelope = l.envelope ∧ l.interruptLine.loops = l.loops
    ∧ l.interruptLine.drivers = l.drivers ∧ l.interruptLine.lockdown = l.lockdown
    ∧ l.interruptLine.ledgers = l.ledgers ∧ l.interruptLine.bus = l.bus := by
  unfold Lane.interruptLine
  dsimp only
  repeat' split
  all_goals simp [*]

@[simp] theorem Lane.retire_frame (l : Lane) :
    l.retire.clock = l.clock ∧ l.retire.sup = l.sup ∧ l.retire.settings = l.settings
    ∧ l.retire.cass = l.cass ∧ l.retire.transport = l.transport ∧ l.retire.payout = l.payout
    ∧ l.retire.drawer = l.drawer ∧ l.retire.intake = l.intake ∧ l.retire.envelope = l.envelope
    ∧ l.retire.journal.cells = l.journal.cells ∧ l.retire.loops = l.loops
    ∧ l.retire.drivers = l.drivers ∧ l.retire.lockdown = l.lockdown ∧ l.retire.ledgers = l.ledgers
    ∧ l.retire.bus = l.bus ∧ l.retire.free = l.free := by
  unfold Lane.retire
  repeat' split
  all_goals simp [*]

@[simp] theorem Lane.writeHead_frame (l : Lane) :
    l.writeHead.clock = l.clock ∧ l.writeHead.sup = l.sup ∧ l.writeHead.settings = l.settings
    ∧ l.writeHead.cass = l.cass ∧ l.writeHead.transport = l.transport
    ∧ l.writeHead.payout = l.payout ∧ l.writeHead.drawer = l.drawer
    ∧ l.writeHead.intake = l.intake ∧ l.writeHead.envelope = l.envelope
    ∧ l.writeHead.journal.cells = l.journal.cells ∧ l.writeHead.loops = l.loops
    ∧ l.writeHead.drivers = l.drivers ∧ l.writeHead.lockdown = l.lockdown
    ∧ l.writeHead.ledgers = l.ledgers ∧ l.writeHead.bus = l.bus ∧ l.writeHead.free = l.free := by
  unfold Lane.writeHead
  dsimp only
  repeat' split
  all_goals simp [*]

@[simp] theorem Lane.goOn_frame (l : Lane) :
    l.goOn.clock = l.clock ∧ l.goOn.sup = l.sup ∧ l.goOn.settings = l.settings
    ∧ l.goOn.cass = l.cass ∧ l.goOn.transport = l.transport ∧ l.goOn.payout = l.payout
    ∧ l.goOn.drawer = l.drawer ∧ l.goOn.intake = l.intake ∧ l.goOn.envelope = l.envelope
    ∧ l.goOn.journal.cells = l.journal.cells ∧ l.goOn.loops = l.loops ∧ l.goOn.drivers = l.drivers
    ∧ l.goOn.lockdown = l.lockdown ∧ l.goOn.ledgers = l.ledgers ∧ l.goOn.bus = l.bus
    ∧ l.goOn.free = l.free := by
  unfold Lane.goOn
  repeat' split
  all_goals simp [*]

@[simp] theorem Lane.afterSlot_frame (l : Lane) :
    l.afterSlot.clock = l.clock ∧ l.afterSlot.sup = l.sup ∧ l.afterSlot.settings = l.settings
    ∧ l.afterSlot.cass = l.cass ∧ l.afterSlot.transport = l.transport
    ∧ l.afterSlot.payout = l.payout ∧ l.afterSlot.drawer = l.drawer
    ∧ l.afterSlot.intake = l.intake ∧ l.afterSlot.envelope = l.envelope
    ∧ l.afterSlot.journal.cells = l.journal.cells ∧ l.afterSlot.loops = l.loops
    ∧ l.afterSlot.drivers = l.drivers ∧ l.afterSlot.lockdown = l.lockdown
    ∧ l.afterSlot.ledgers = l.ledgers ∧ l.afterSlot.bus = l.bus ∧ l.afterSlot.free = l.free := by
  unfold Lane.afterSlot
  repeat' split
  all_goals simp [*]

@[simp] theorem Lane.reportWritten_frame (l : Lane) (r : Record) (sequence : Nat) :
    (l.reportWritten r sequence).clock = l.clock ∧ (l.reportWritten r sequence).sup = l.sup
    ∧ (l.reportWritten r sequence).settings = l.settings
    ∧ (l.reportWritten r sequence).transport = l.transport
    ∧ (l.reportWritten r sequence).payout = l.payout
    ∧ (l.reportWritten r sequence).drawer = l.drawer
    ∧ (l.reportWritten r sequence).intake = l.intake
    ∧ (l.reportWritten r sequence).envelope = l.envelope
    ∧ (l.reportWritten r sequence).journal = l.journal
    ∧ (l.reportWritten r sequence).loops = l.loops
    ∧ (l.reportWritten r sequence).drivers = l.drivers
    ∧ (l.reportWritten r sequence).lockdown = l.lockdown
    ∧ (l.reportWritten r sequence).ledgers = l.ledgers ∧ (l.reportWritten r sequence).bus = l.bus
    ∧ (l.reportWritten r sequence).free = l.free := by
  unfold Lane.reportWritten
  dsimp only
  repeat' split
  all_goals simp [*]

@[simp] theorem Lane.headWritten_frame (l : Lane) :
    l.headWritten.clock = l.clock ∧ l.headWritten.sup = l.sup
    ∧ l.headWritten.settings = l.settings ∧ l.headWritten.transport = l.transport
    ∧ l.headWritten.payout = l.payout ∧ l.headWritten.drawer = l.drawer
    ∧ l.headWritten.intake = l.intake ∧ l.headWritten.envelope = l.envelope
    ∧ l.headWritten.journal.cells = l.journal.cells ∧ l.headWritten.loops = l.loops
    ∧ l.headWritten.drivers = l.drivers ∧ l.headWritten.lockdown = l.lockdown
    ∧ l.headWritten.ledgers = l.ledgers ∧ l.headWritten.bus.mute = l.bus.mute
    ∧ l.headWritten.free = l.free := by
  unfold Lane.headWritten
  dsimp only
  repeat' split
  all_goals simp [*]

@[simp] theorem Lane.passPage_frame (l : Lane) (page : Nat) :
    (l.passPage page).clock = l.clock ∧ (l.passPage page).sup = l.sup
    ∧ (l.passPage page).settings = l.settings ∧ (l.passPage page).cass = l.cass
    ∧ (l.passPage page).transport = l.transport ∧ (l.passPage page).payout = l.payout
    ∧ (l.passPage page).drawer = l.drawer ∧ (l.passPage page).intake = l.intake
    ∧ (l.passPage page).envelope = l.envelope ∧ (l.passPage page).journal.cells = l.journal.cells
    ∧ (l.passPage page).loops = l.loops ∧ (l.passPage page).drivers = l.drivers
    ∧ (l.passPage page).lockdown = l.lockdown ∧ (l.passPage page).ledgers = l.ledgers
    ∧ (l.passPage page).bus = l.bus ∧ (l.passPage page).free = l.free := by
  unfold Lane.passPage Journal.passed
  split <;> simp

@[simp] theorem Lane.answered_frame (l : Lane) (op : LineOp) (shown : SlotBits) :
    (l.answered op shown).clock = l.clock ∧ (l.answered op shown).sup = l.sup
    ∧ (l.answered op shown).settings = l.settings ∧ (l.answered op shown).transport = l.transport
    ∧ (l.answered op shown).payout = l.payout ∧ (l.answered op shown).drawer = l.drawer
    ∧ (l.answered op shown).intake = l.intake ∧ (l.answered op shown).envelope = l.envelope
    ∧ (l.answered op shown).journal.cells = l.journal.cells
    ∧ (l.answered op shown).loops = l.loops ∧ (l.answered op shown).drivers = l.drivers
    ∧ (l.answered op shown).lockdown = l.lockdown ∧ (l.answered op shown).ledgers = l.ledgers
    ∧ (l.answered op shown).bus.mute = l.bus.mute ∧ (l.answered op shown).free = l.free := by
  unfold Lane.answered
  dsimp only
  repeat' split
  all_goals simp [*]

@[simp] theorem Lane.lineAnswer_frame (l : Lane) (seen : Option SlotBits) :
    (l.lineAnswer seen).clock = l.clock ∧ (l.lineAnswer seen).sup = l.sup
    ∧ (l.lineAnswer seen).settings = l.settings ∧ (l.lineAnswer seen).transport = l.transport
    ∧ (l.lineAnswer seen).payout = l.payout ∧ (l.lineAnswer seen).drawer = l.drawer
    ∧ (l.lineAnswer seen).intake = l.intake ∧ (l.lineAnswer seen).envelope = l.envelope
    ∧ (l.lineAnswer seen).loops = l.loops ∧ (l.lineAnswer seen).drivers = l.drivers
    ∧ (l.lineAnswer seen).lockdown = l.lockdown ∧ (l.lineAnswer seen).ledgers = l.ledgers
    ∧ (l.lineAnswer seen).bus.mute = l.bus.mute ∧ (l.lineAnswer seen).free = l.free := by
  unfold Lane.lineAnswer
  dsimp only
  repeat' split
  all_goals simp [*]

@[simp] theorem Lane.writeStart_frame (l : Lane) :
    l.writeStart.clock = l.clock ∧ l.writeStart.sup = l.sup ∧ l.writeStart.settings = l.settings
    ∧ l.writeStart.cass = l.cass ∧ l.writeStart.transport = l.transport
    ∧ l.writeStart.payout = l.payout ∧ l.writeStart.drawer = l.drawer
    ∧ l.writeStart.intake = l.intake ∧ l.writeStart.envelope = l.envelope
    ∧ l.writeStart.journal.cells = l.journal.cells ∧ l.writeStart.loops = l.loops
    ∧ l.writeStart.drivers = l.drivers ∧ l.writeStart.lockdown = l.lockdown
    ∧ l.writeStart.ledgers = l.ledgers ∧ l.writeStart.bus = l.bus ∧ l.writeStart.free = l.free := by
  unfold Lane.writeStart
  repeat' split
  all_goals simp [*]

@[simp] theorem Lane.startCandidate_frame (l : Lane) (n : LoopNo) :
    (l.startCandidate n).clock = l.clock ∧ (l.startCandidate n).sup = l.sup
    ∧ (l.startCandidate n).settings = l.settings ∧ (l.startCandidate n).cass = l.cass
    ∧ (l.startCandidate n).transport = l.transport ∧ (l.startCandidate n).payout = l.payout
    ∧ (l.startCandidate n).drawer = l.drawer ∧ (l.startCandidate n).intake = l.intake
    ∧ (l.startCandidate n).envelope = l.envelope ∧ (l.startCandidate n).journal = l.journal
    ∧ (l.startCandidate n).drivers = l.drivers ∧ (l.startCandidate n).lockdown = l.lockdown
    ∧ (l.startCandidate n).ledgers = l.ledgers ∧ (l.startCandidate n).bus = l.bus
    ∧ (l.startCandidate n).free = l.free := by
  unfold Lane.startCandidate
  dsimp only
  simp [*]

@[simp] theorem Lane.measured_frame (l : Lane) (n : LoopNo) (code : Byte) :
    (l.measured n code).clock = l.clock ∧ (l.measured n code).sup = l.sup
    ∧ (l.measured n code).settings = l.settings ∧ (l.measured n code).cass = l.cass
    ∧ (l.measured n code).transport = l.transport ∧ (l.measured n code).payout = l.payout
    ∧ (l.measured n code).drawer = l.drawer ∧ (l.measured n code).intake = l.intake
    ∧ (l.measured n code).envelope = l.envelope ∧ (l.measured n code).journal = l.journal
    ∧ (l.measured n code).drivers = l.drivers ∧ (l.measured n code).lockdown = l.lockdown
    ∧ (l.measured n code).ledgers = l.ledgers ∧ (l.measured n code).bus = l.bus
    ∧ (l.measured n code).free = l.free := by
  unfold Lane.measured
  dsimp only
  repeat' split
  all_goals simp [*]

@[simp] theorem Lane.suspectUsed_frame (l : Lane) (i : Position) :
    (l.suspectUsed i).clock = l.clock ∧ (l.suspectUsed i).sup = l.sup
    ∧ (l.suspectUsed i).settings = l.settings ∧ (l.suspectUsed i).transport = l.transport
    ∧ (l.suspectUsed i).payout = l.payout ∧ (l.suspectUsed i).drawer = l.drawer
    ∧ (l.suspectUsed i).intake = l.intake ∧ (l.suspectUsed i).envelope = l.envelope
    ∧ (l.suspectUsed i).journal = l.journal ∧ (l.suspectUsed i).loops = l.loops
    ∧ (l.suspectUsed i).drivers = l.drivers ∧ (l.suspectUsed i).lockdown = l.lockdown
    ∧ (l.suspectUsed i).ledgers = l.ledgers ∧ (l.suspectUsed i).bus.mute = l.bus.mute
    ∧ (l.suspectUsed i).free = l.free := by
  unfold Lane.suspectUsed
  dsimp only
  repeat' split
  all_goals simp [*]

@[simp] theorem Lane.doorSuspect_frame (l : Lane) :
    l.doorSuspect.clock = l.clock ∧ l.doorSuspect.sup = l.sup
    ∧ l.doorSuspect.settings = l.settings ∧ l.doorSuspect.intake = l.intake
    ∧ l.doorSuspect.envelope = l.envelope ∧ l.doorSuspect.journal.cells = l.journal.cells
    ∧ l.doorSuspect.loops = l.loops ∧ l.doorSuspect.lockdown = l.lockdown
    ∧ l.doorSuspect.bus.mute = l.bus.mute ∧ l.doorSuspect.free = l.free := by
  simp [Lane.doorSuspect, positions]

@[simp] theorem Lane.vibrationHit_frame (l : Lane) (n : LoopNo) :
    (l.vibrationHit n).clock = l.clock ∧ (l.vibrationHit n).sup.lane = l.sup.lane
    ∧ (l.vibrationHit n).sup.laneCount = l.sup.laneCount
    ∧ (l.vibrationHit n).sup.scanning = l.sup.scanning
    ∧ (l.vibrationHit n).sup.homing = l.sup.homing ∧ (l.vibrationHit n).settings = l.settings
    ∧ (l.vibrationHit n).cass = l.cass ∧ (l.vibrationHit n).transport = l.transport
    ∧ (l.vibrationHit n).drawer = l.drawer ∧ (l.vibrationHit n).intake = l.intake
    ∧ (l.vibrationHit n).journal.cells = l.journal.cells
    ∧ (l.vibrationHit n).lockdown = l.lockdown ∧ (l.vibrationHit n).ledgers.cash = l.ledgers.cash
    ∧ (l.vibrationHit n).bus.mute = l.bus.mute ∧ (l.vibrationHit n).free = l.free := by
  unfold Lane.vibrationHit
  dsimp only
  repeat' split
  all_goals simp [*]

@[simp] theorem Lane.roleAction_frame (l : Lane) (n : LoopNo) (role : LoopRole) (c : LoopClass) :
    (l.roleAction n role c).clock = l.clock ∧ (l.roleAction n role c).sup.lane = l.sup.lane
    ∧ (l.roleAction n role c).sup.laneCount = l.sup.laneCount
    ∧ (l.roleAction n role c).sup.scanning = l.sup.scanning
    ∧ (l.roleAction n role c).sup.homing = l.sup.homing
    ∧ (l.roleAction n role c).settings = l.settings
    ∧ (l.roleAction n role c).journal.cells = l.journal.cells
    ∧ (l.roleAction n role c).bus.mute = l.bus.mute ∧ (l.roleAction n role c).free = l.free := by
  unfold Lane.roleAction
  dsimp only
  repeat' split
  all_goals simp [*]

@[simp] theorem Lane.filteredChange_frame (l : Lane) (n : LoopNo) (left entered : LoopClass) :
    (l.filteredChange n left entered).clock = l.clock
    ∧ (l.filteredChange n left entered).sup.lane = l.sup.lane
    ∧ (l.filteredChange n left entered).sup.laneCount = l.sup.laneCount
    ∧ (l.filteredChange n left entered).sup.scanning = l.sup.scanning
    ∧ (l.filteredChange n left entered).sup.homing = l.sup.homing
    ∧ (l.filteredChange n left entered).settings = l.settings
    ∧ (l.filteredChange n left entered).journal.cells = l.journal.cells
    ∧ (l.filteredChange n left entered).bus.mute = l.bus.mute
    ∧ (l.filteredChange n left entered).free = l.free := by
  unfold Lane.filteredChange
  dsimp only
  simp [*]

@[simp] theorem Lane.filterExpired_frame (l : Lane) (n : LoopNo) :
    (l.filterExpired n).clock = l.clock ∧ (l.filterExpired n).sup.lane = l.sup.lane
    ∧ (l.filterExpired n).sup.laneCount = l.sup.laneCount
    ∧ (l.filterExpired n).sup.scanning = l.sup.scanning
    ∧ (l.filterExpired n).sup.homing = l.sup.homing ∧ (l.filterExpired n).settings = l.settings
    ∧ (l.filterExpired n).journal.cells = l.journal.cells
    ∧ (l.filterExpired n).bus.mute = l.bus.mute ∧ (l.filterExpired n).free = l.free := by
  unfold Lane.filterExpired
  dsimp only
  repeat' split
  all_goals simp [*]

@[simp] theorem Lane.clearLoops_frame (l : Lane) :
    l.clearLoops.clock = l.clock ∧ l.clearLoops.sup.service = l.sup.service
    ∧ l.clearLoops.sup.lane = l.sup.lane ∧ l.clearLoops.sup.laneCount = l.sup.laneCount
    ∧ l.clearLoops.sup.scanning = l.sup.scanning ∧ l.clearLoops.sup.homing = l.sup.homing
    ∧ l.clearLoops.settings = l.settings ∧ l.clearLoops.cass = l.cass
    ∧ l.clearLoops.transport = l.transport ∧ l.clearLoops.payout = l.payout
    ∧ l.clearLoops.drawer = l.drawer ∧ l.clearLoops.intake = l.intake
    ∧ l.clearLoops.envelope = l.envelope ∧ l.clearLoops.journal = l.journal
    ∧ l.clearLoops.lockdown = l.lockdown ∧ l.clearLoops.ledgers = l.ledgers
    ∧ l.clearLoops.bus = l.bus ∧ l.clearLoops.free = l.free := by
  unfold Lane.clearLoops
  dsimp only
  simp [*]

@[simp] theorem Lane.scanComplete_frame (l : Lane) :
    l.scanComplete.clock = l.clock ∧ l.scanComplete.sup.service = l.sup.service
    ∧ l.scanComplete.sup.lane = l.sup.lane ∧ l.scanComplete.sup.laneCount = l.sup.laneCount
    ∧ l.scanComplete.settings = l.settings ∧ l.scanComplete.transport = l.transport
    ∧ l.scanComplete.payout = l.payout ∧ l.scanComplete.drawer = l.drawer
    ∧ l.scanComplete.intake = l.intake ∧ l.scanComplete.loops = l.loops
    ∧ l.scanComplete.drivers = l.drivers ∧ l.scanComplete.lockdown = l.lockdown
    ∧ l.scanComplete.bus = l.bus ∧ l.scanComplete.free = l.free := by
  unfold Lane.scanComplete
  repeat' split
  all_goals simp [*]

@[simp] theorem Lane.scanBroken_frame (l : Lane) (st : JournalState) :
    (l.scanBroken st).clock = l.clock ∧ (l.scanBroken st).sup.service = l.sup.service
    ∧ (l.scanBroken st).sup.lane = l.sup.lane ∧ (l.scanBroken st).sup.laneCount = l.sup.laneCount
    ∧ (l.scanBroken st).settings = l.settings ∧ (l.scanBroken st).transport = l.transport
    ∧ (l.scanBroken st).payout = l.payout ∧ (l.scanBroken st).drawer = l.drawer
    ∧ (l.scanBroken st).intake = l.intake ∧ (l.scanBroken st).loops = l.loops
    ∧ (l.scanBroken st).drivers = l.drivers ∧ (l.scanBroken st).lockdown = l.lockdown
    ∧ (l.scanBroken st).bus = l.bus ∧ (l.scanBroken st).free = l.free := by
  unfold Lane.scanBroken
  simp [*]

@[simp] theorem Lane.selfTest_frame (l : Lane) (converter : Byte) :
    (l.selfTest converter).clock = l.clock ∧ (l.selfTest converter).sup.lane = l.sup.lane
    ∧ (l.selfTest converter).sup.laneCount = l.sup.laneCount
    ∧ (l.selfTest converter).settings = l.settings
    ∧ (l.selfTest converter).transport = l.transport ∧ (l.selfTest converter).drawer = l.drawer
    ∧ (l.selfTest converter).intake = l.intake ∧ (l.selfTest converter).loops = l.loops
    ∧ (l.selfTest converter).lockdown = l.lockdown ∧ (l.selfTest converter).bus.mute = l.bus.mute
    ∧ (l.selfTest converter).free = l.free := by
  unfold Lane.selfTest
  dsimp only
  repeat' split
  all_goals simp [*]

@[simp] theorem Lane.joinCounted_frame (l : Lane) (n : Nat) (r : Record) :
    (l.joinCounted n r).clock = l.clock ∧ (l.joinCounted n r).sup = l.sup
    ∧ (l.joinCounted n r).settings = l.settings ∧ (l.joinCounted n r).cass = l.cass
    ∧ (l.joinCounted n r).transport = l.transport ∧ (l.joinCounted n r).payout = l.payout
    ∧ (l.joinCounted n r).drawer = l.drawer ∧ (l.joinCounted n r).intake = l.intake
    ∧ (l.joinCounted n r).envelope = l.envelope
    ∧ (l.joinCounted n r).journal.cells = l.journal.cells ∧ (l.joinCounted n r).loops = l.loops
    ∧ (l.joinCounted n r).drivers = l.drivers ∧ (l.joinCounted n r).lockdown = l.lockdown
    ∧ (l.joinCounted n r).ledgers = l.ledgers ∧ (l.joinCounted n r).bus = l.bus
    ∧ (l.joinCounted n r).free = l.free := by
  unfold Lane.joinCounted
  repeat' split
  all_goals simp [*]

@[simp] theorem Lane.joinRecords_frame (l : Lane) (rs : List Record) :
    (l.joinRecords rs).clock = l.clock ∧ (l.joinRecords rs).sup = l.sup
    ∧ (l.joinRecords rs).settings = l.settings ∧ (l.joinRecords rs).cass = l.cass
    ∧ (l.joinRecords rs).transport = l.transport ∧ (l.joinRecords rs).payout = l.payout
    ∧ (l.joinRecords rs).drawer = l.drawer ∧ (l.joinRecords rs).intake = l.intake
    ∧ (l.joinRecords rs).envelope = l.envelope
    ∧ (l.joinRecords rs).journal.cells = l.journal.cells ∧ (l.joinRecords rs).loops = l.loops
    ∧ (l.joinRecords rs).drivers = l.drivers ∧ (l.joinRecords rs).lockdown = l.lockdown
    ∧ (l.joinRecords rs).ledgers = l.ledgers ∧ (l.joinRecords rs).bus = l.bus
    ∧ (l.joinRecords rs).free = l.free := by
  induction rs generalizing l <;> simp [Lane.joinRecords, *]

@[simp] theorem Lane.joinHoming_frame (l : Lane) :
    l.joinHoming.clock = l.clock ∧ l.joinHoming.sup = l.sup ∧ l.joinHoming.settings = l.settings
    ∧ l.joinHoming.cass = l.cass ∧ l.joinHoming.transport = l.transport
    ∧ l.joinHoming.payout = l.payout ∧ l.joinHoming.drawer = l.drawer
    ∧ l.joinHoming.intake = l.intake ∧ l.joinHoming.envelope = l.envelope
    ∧ l.joinHoming.journal.cells = l.journal.cells ∧ l.joinHoming.loops = l.loops
    ∧ l.joinHoming.drivers = l.drivers ∧ l.joinHoming.ledgers = l.ledgers
    ∧ l.joinHoming.bus = l.bus ∧ l.joinHoming.free = l.free := by
  unfold Lane.joinHoming
  dsimp only
  repeat' split
  all_goals simp [*]

@[simp] theorem Lane.homingComplete_frame (l : Lane) :
    l.homingComplete.clock = l.clock ∧ l.homingComplete.sup.lane = l.sup.lane
    ∧ l.homingComplete.sup.laneCount = l.sup.laneCount
    ∧ l.homingComplete.sup.scanning = l.sup.scanning ∧ l.homingComplete.settings = l.settings
    ∧ l.homingComplete.cass = l.cass ∧ l.homingComplete.journal.cells = l.journal.cells
    ∧ l.homingComplete.loops = l.loops ∧ l.homingComplete.bus.mute = l.bus.mute
    ∧ l.homingComplete.free = l.free := by
  unfold Lane.homingComplete
  dsimp only
  repeat' split
  all_goals simp [*]

@[simp] theorem Lane.announceCassette_frame (l : Lane) (i : Position) :
    (l.announceCassette i).clock = l.clock ∧ (l.announceCassette i).sup = l.sup
    ∧ (l.announceCassette i).settings = l.settings ∧ (l.announceCassette i).cass = l.cass
    ∧ (l.announceCassette i).transport = l.transport ∧ (l.announceCassette i).payout = l.payout
    ∧ (l.announceCassette i).drawer = l.drawer ∧ (l.announceCassette i).intake = l.intake
    ∧ (l.announceCassette i).envelope = l.envelope ∧ (l.announceCassette i).journal = l.journal
    ∧ (l.announceCassette i).loops = l.loops ∧ (l.announceCassette i).drivers = l.drivers
    ∧ (l.announceCassette i).lockdown = l.lockdown ∧ (l.announceCassette i).ledgers = l.ledgers
    ∧ (l.announceCassette i).bus.mute = l.bus.mute ∧ (l.announceCassette i).free = l.free := by
  unfold Lane.announceCassette
  dsimp only
  simp [*]

@[simp] theorem Lane.announceCassettes_frame (l : Lane) :
    l.announceCassettes.clock = l.clock ∧ l.announceCassettes.sup = l.sup
    ∧ l.announceCassettes.settings = l.settings ∧ l.announceCassettes.cass = l.cass
    ∧ l.announceCassettes.transport = l.transport ∧ l.announceCassettes.payout = l.payout
    ∧ l.announceCassettes.drawer = l.drawer ∧ l.announceCassettes.intake = l.intake
    ∧ l.announceCassettes.envelope = l.envelope ∧ l.announceCassettes.journal = l.journal
    ∧ l.announceCassettes.loops = l.loops ∧ l.announceCassettes.drivers = l.drivers
    ∧ l.announceCassettes.lockdown = l.lockdown ∧ l.announceCassettes.ledgers = l.ledgers
    ∧ l.announceCassettes.bus.mute = l.bus.mute ∧ l.announceCassettes.free = l.free := by
  simp [Lane.announceCassettes, positions]

@[simp] theorem Lane.announceDriver_frame (l : Lane) (d : Driver) :
    (l.announceDriver d).clock = l.clock ∧ (l.announceDriver d).sup = l.sup
    ∧ (l.announceDriver d).settings = l.settings ∧ (l.announceDriver d).cass = l.cass
    ∧ (l.announceDriver d).transport = l.transport ∧ (l.announceDriver d).payout = l.payout
    ∧ (l.announceDriver d).drawer = l.drawer ∧ (l.announceDriver d).intake = l.intake
    ∧ (l.announceDriver d).envelope = l.envelope ∧ (l.announceDriver d).journal = l.journal
    ∧ (l.announceDriver d).loops = l.loops ∧ (l.announceDriver d).drivers = l.drivers
    ∧ (l.announceDriver d).lockdown = l.lockdown ∧ (l.announceDriver d).ledgers = l.ledgers
    ∧ (l.announceDriver d).bus.mute = l.bus.mute ∧ (l.announceDriver d).free = l.free := by
  unfold Lane.announceDriver
  dsimp only
  repeat' split
  all_goals simp [*]

@[simp] theorem Lane.announceDrivers_frame (l : Lane) :
    l.announceDrivers.clock = l.clock ∧ l.announceDrivers.sup = l.sup
    ∧ l.announceDrivers.settings = l.settings ∧ l.announceDrivers.cass = l.cass
    ∧ l.announceDrivers.transport = l.transport ∧ l.announceDrivers.payout = l.payout
    ∧ l.announceDrivers.drawer = l.drawer ∧ l.announceDrivers.intake = l.intake
    ∧ l.announceDrivers.envelope = l.envelope ∧ l.announceDrivers.journal = l.journal
    ∧ l.announceDrivers.loops = l.loops ∧ l.announceDrivers.drivers = l.drivers
    ∧ l.announceDrivers.lockdown = l.lockdown ∧ l.announceDrivers.ledgers = l.ledgers
    ∧ l.announceDrivers.bus.mute = l.bus.mute ∧ l.announceDrivers.free = l.free := by
  simp [Lane.announceDrivers, Sys2Proof.drivers]

@[simp] theorem Lane.applySettings_frame (l : Lane) :
    l.applySettings.clock = l.clock ∧ l.applySettings.sup.lane = l.sup.lane
    ∧ l.applySettings.sup.laneCount = l.sup.laneCount ∧ l.applySettings.sup.causes = l.sup.causes
    ∧ l.applySettings.sup.scanning = l.sup.scanning ∧ l.applySettings.sup.homing = l.sup.homing
    ∧ l.applySettings.transport = l.transport ∧ l.applySettings.payout = l.payout
    ∧ l.applySettings.drawer = l.drawer ∧ l.applySettings.intake = l.intake
    ∧ l.applySettings.envelope = l.envelope ∧ l.applySettings.journal = l.journal
    ∧ l.applySettings.lockdown = l.lockdown ∧ l.applySettings.ledgers.cash = l.ledgers.cash
    ∧ l.applySettings.bus.mute = l.bus.mute ∧ l.applySettings.free = l.free := by
  unfold Lane.applySettings
  simp only [eightNumbers, List.foldl]
  (repeat' split) <;> simp

@[simp] theorem Lane.recheckHead_frame (l : Lane) (last : Option ScanEntry) :
    (l.recheckHead last).clock = l.clock ∧ (l.recheckHead last).sup = l.sup
    ∧ (l.recheckHead last).settings = l.settings ∧ (l.recheckHead last).transport = l.transport
    ∧ (l.recheckHead last).payout = l.payout ∧ (l.recheckHead last).drawer = l.drawer
    ∧ (l.recheckHead last).intake = l.intake ∧ (l.recheckHead last).envelope = l.envelope
    ∧ (l.recheckHead last).journal.cells = l.journal.cells ∧ (l.recheckHead last).loops = l.loops
    ∧ (l.recheckHead last).drivers = l.drivers ∧ (l.recheckHead last).lockdown = l.lockdown
    ∧ (l.recheckHead last).ledgers = l.ledgers ∧ (l.recheckHead last).bus.mute = l.bus.mute
    ∧ (l.recheckHead last).free = l.free := by
  unfold Lane.recheckHead
  dsimp only
  repeat' split
  all_goals simp [*]

@[simp] theorem Lane.rescanned_frame (l : Lane) (w : Walk) :
    (l.rescanned w).clock = l.clock ∧ (l.rescanned w).sup = l.sup
    ∧ (l.rescanned w).settings = l.settings ∧ (l.rescanned w).transport = l.transport
    ∧ (l.rescanned w).payout = l.payout ∧ (l.rescanned w).drawer = l.drawer
    ∧ (l.rescanned w).intake = l.intake ∧ (l.rescanned w).envelope = l.envelope
    ∧ (l.rescanned w).journal.cells = w.cells ∧ (l.rescanned w).loops = l.loops
    ∧ (l.rescanned w).drivers = l.drivers ∧ (l.rescanned w).lockdown = l.lockdown
    ∧ (l.rescanned w).ledgers = l.ledgers ∧ (l.rescanned w).bus.mute = l.bus.mute
    ∧ (l.rescanned w).free = l.free := by
  simp [Lane.rescanned, Journal.mapped]

@[simp] theorem Lane.rescan_frame (l : Lane) :
    l.rescan.1.clock = l.clock ∧ l.rescan.1.sup = l.sup ∧ l.rescan.1.settings = l.settings
    ∧ l.rescan.1.transport = l.transport ∧ l.rescan.1.payout = l.payout
    ∧ l.rescan.1.drawer = l.drawer ∧ l.rescan.1.intake = l.intake
    ∧ l.rescan.1.envelope = l.envelope ∧ l.rescan.1.loops = l.loops
    ∧ l.rescan.1.drivers = l.drivers ∧ l.rescan.1.lockdown = l.lockdown
    ∧ l.rescan.1.ledgers = l.ledgers ∧ l.rescan.1.bus.mute = l.bus.mute := by
  unfold Lane.rescan
  dsimp only
  repeat' split
  all_goals simp [*]

@[simp] theorem Lane.testResult_frame (l : Lane) (tag : Tag) (step : Nat) (pass : Bool) :
    (l.testResult tag step pass).clock = l.clock
    ∧ (l.testResult tag step pass).sup.service = l.sup.service
    ∧ (l.testResult tag step pass).sup.lane = l.sup.lane
    ∧ (l.testResult tag step pass).sup.laneCount = l.sup.laneCount
    ∧ (l.testResult tag step pass).sup.causes = l.sup.causes
    ∧ (l.testResult tag step pass).sup.scanning = l.sup.scanning
    ∧ (l.testResult tag step pass).sup.homing = l.sup.homing
    ∧ (l.testResult tag step pass).settings = l.settings
    ∧ (l.testResult tag step pass).cass = l.cass
    ∧ (l.testResult tag step pass).transport = l.transport
    ∧ (l.testResult tag step pass).payout = l.payout
    ∧ (l.testResult tag step pass).drawer = l.drawer
    ∧ (l.testResult tag step pass).intake = l.intake
    ∧ (l.testResult tag step pass).envelope = l.envelope
    ∧ (l.testResult tag step pass).journal = l.journal
    ∧ (l.testResult tag step pass).loops = l.loops
    ∧ (l.testResult tag step pass).drivers = l.drivers
    ∧ (l.testResult tag step pass).lockdown = l.lockdown
    ∧ (l.testResult tag step pass).ledgers = l.ledgers
    ∧ (l.testResult tag step pass).bus.mute = l.bus.mute
    ∧ (l.testResult tag step pass).free = l.free := by
  unfold Lane.testResult
  dsimp only
  simp [*]

@[simp] theorem Lane.testComplete_frame (l : Lane) (converter : Byte) :
    (l.testComplete converter).clock = l.clock ∧ (l.testComplete converter).sup.lane = l.sup.lane
    ∧ (l.testComplete converter).sup.laneCount = l.sup.laneCount
    ∧ (l.testComplete converter).sup.scanning = l.sup.scanning
    ∧ (l.testComplete converter).sup.homing = l.sup.homing
    ∧ (l.testComplete converter).settings = l.settings
    ∧ (l.testComplete converter).transport = l.transport
    ∧ (l.testComplete converter).drawer = l.drawer ∧ (l.testComplete converter).intake = l.intake
    ∧ (l.testComplete converter).loops = l.loops
    ∧ (l.testComplete converter).lockdown = l.lockdown
    ∧ (l.testComplete converter).ledgers.cash = l.ledgers.cash
    ∧ (l.testComplete converter).bus.mute = l.bus.mute := by
  unfold Lane.testComplete
  dsimp only
  repeat' split
  all_goals simp [*]

@[simp] theorem Lane.replyPower_frame (l : Lane) (h : Sender) (kind : Fin 32) (body : ReplyBody) :
    (l.replyPower h kind body).clock = l.clock
    ∧ (l.replyPower h kind body).sup.service = l.sup.service
    ∧ (l.replyPower h kind body).sup.lane = l.sup.lane
    ∧ (l.replyPower h kind body).sup.laneCount = l.sup.laneCount
    ∧ (l.replyPower h kind body).sup.causes = l.sup.causes
    ∧ (l.replyPower h kind body).sup.scanning = l.sup.scanning
    ∧ (l.replyPower h kind body).sup.homing = l.sup.homing
    ∧ (l.replyPower h kind body).settings = l.settings ∧ (l.replyPower h kind body).cass = l.cass
    ∧ (l.replyPower h kind body).transport = l.transport
    ∧ (l.replyPower h kind body).payout = l.payout ∧ (l.replyPower h kind body).drawer = l.drawer
    ∧ (l.replyPower h kind body).intake = l.intake
    ∧ (l.replyPower h kind body).envelope = l.envelope
    ∧ (l.replyPower h kind body).journal = l.journal ∧ (l.replyPower h kind body).loops = l.loops
    ∧ (l.replyPower h kind body).drivers = l.drivers
    ∧ (l.replyPower h kind body).lockdown = l.lockdown
    ∧ (l.replyPower h kind body).ledgers = l.ledgers
    ∧ (l.replyPower h kind body).bus.mute = l.bus.mute ∧ (l.replyPower h kind body).free = l.free := by
  unfold Lane.replyPower
  dsimp only
  repeat' split
  all_goals simp [*]

@[simp] theorem Lane.loopsRequest_frame (l : Lane) (h : Sender) :
    (l.loopsRequest h).clock = l.clock ∧ (l.loopsRequest h).sup.service = l.sup.service
    ∧ (l.loopsRequest h).sup.lane = l.sup.lane
    ∧ (l.loopsRequest h).sup.laneCount = l.sup.laneCount
    ∧ (l.loopsRequest h).sup.causes = l.sup.causes
    ∧ (l.loopsRequest h).sup.scanning = l.sup.scanning
    ∧ (l.loopsRequest h).sup.homing = l.sup.homing ∧ (l.loopsRequest h).settings = l.settings
    ∧ (l.loopsRequest h).cass = l.cass ∧ (l.loopsRequest h).transport = l.transport
    ∧ (l.loopsRequest h).payout = l.payout ∧ (l.loopsRequest h).drawer = l.drawer
    ∧ (l.loopsRequest h).intake = l.intake ∧ (l.loopsRequest h).envelope = l.envelope
    ∧ (l.loopsRequest h).journal = l.journal ∧ (l.loopsRequest h).loops = l.loops
    ∧ (l.loopsRequest h).drivers = l.drivers ∧ (l.loopsRequest h).lockdown = l.lockdown
    ∧ (l.loopsRequest h).ledgers = l.ledgers ∧ (l.loopsRequest h).bus.mute = l.bus.mute
    ∧ (l.loopsRequest h).free = l.free := by
  unfold Lane.loopsRequest
  simp [*]

@[simp] theorem Lane.loopsClearRequest_frame (l : Lane) (h : Sender) :
    (l.loopsClearRequest h).clock = l.clock ∧ (l.loopsClearRequest h).sup.service = l.sup.service
    ∧ (l.loopsClearRequest h).sup.lane = l.sup.lane
    ∧ (l.loopsClearRequest h).sup.laneCount = l.sup.laneCount
    ∧ (l.loopsClearRequest h).sup.scanning = l.sup.scanning
    ∧ (l.loopsClearRequest h).sup.homing = l.sup.homing
    ∧ (l.loopsClearRequest h).settings = l.settings ∧ (l.loopsClearRequest h).cass = l.cass
    ∧ (l.loopsClearRequest h).transport = l.transport ∧ (l.loopsClearRequest h).payout = l.payout
    ∧ (l.loopsClearRequest h).drawer = l.drawer ∧ (l.loopsClearRequest h).intake = l.intake
    ∧ (l.loopsClearRequest h).envelope = l.envelope ∧ (l.loopsClearRequest h).journal = l.journal
    ∧ (l.loopsClearRequest h).lockdown = l.lockdown ∧ (l.loopsClearRequest h).ledgers = l.ledgers
    ∧ (l.loopsClearRequest h).bus.mute = l.bus.mute ∧ (l.loopsClearRequest h).free = l.free := by
  simp only [Lane.loopsClearRequest, Lane.supervised, Lane.permit]
  repeat' split
  all_goals simp [*]

@[simp] theorem Lane.driversRequest_frame (l : Lane) (h : Sender) :
    (l.driversRequest h).clock = l.clock ∧ (l.driversRequest h).sup = l.sup
    ∧ (l.driversRequest h).settings = l.settings ∧ (l.driversRequest h).cass = l.cass
    ∧ (l.driversRequest h).transport = l.transport ∧ (l.driversRequest h).payout = l.payout
    ∧ (l.driversRequest h).drawer = l.drawer ∧ (l.driversRequest h).intake = l.intake
    ∧ (l.driversRequest h).envelope = l.envelope ∧ (l.driversRequest h).journal = l.journal
    ∧ (l.driversRequest h).loops = l.loops ∧ (l.driversRequest h).drivers = l.drivers
    ∧ (l.driversRequest h).lockdown = l.lockdown ∧ (l.driversRequest h).ledgers = l.ledgers
    ∧ (l.driversRequest h).bus.mute = l.bus.mute ∧ (l.driversRequest h).free = l.free := by
  unfold Lane.driversRequest
  simp [*]

@[simp] theorem Lane.clearDrivers_frame (l : Lane) :
    l.clearDrivers.clock = l.clock ∧ l.clearDrivers.sup.lane = l.sup.lane
    ∧ l.clearDrivers.sup.laneCount = l.sup.laneCount
    ∧ l.clearDrivers.sup.scanning = l.sup.scanning ∧ l.clearDrivers.sup.homing = l.sup.homing
    ∧ l.clearDrivers.settings = l.settings ∧ l.clearDrivers.cass = l.cass
    ∧ l.clearDrivers.journal.cells = l.journal.cells ∧ l.clearDrivers.loops = l.loops
    ∧ l.clearDrivers.lockdown = l.lockdown ∧ l.clearDrivers.ledgers.cash = l.ledgers.cash
    ∧ l.clearDrivers.bus.mute = l.bus.mute ∧ l.clearDrivers.free = l.free := by
  unfold Lane.clearDrivers
  dsimp only
  simp [*]

@[simp] theorem Lane.driversClearRequest_frame (l : Lane) (h : Sender) :
    (l.driversClearRequest h).clock = l.clock ∧ (l.driversClearRequest h).sup.lane = l.sup.lane
    ∧ (l.driversClearRequest h).sup.laneCount = l.sup.laneCount
    ∧ (l.driversClearRequest h).sup.scanning = l.sup.scanning
    ∧ (l.driversClearRequest h).sup.homing = l.sup.homing
    ∧ (l.driversClearRequest h).settings = l.settings ∧ (l.driversClearRequest h).cass = l.cass
    ∧ (l.driversClearRequest h).journal.cells = l.journal.cells
    ∧ (l.driversClearRequest h).loops = l.loops ∧ (l.driversClearRequest h).lockdown = l.lockdown
    ∧ (l.driversClearRequest h).bus.mute = l.bus.mute ∧ (l.driversClearRequest h).free = l.free := by
  simp only [Lane.driversClearRequest, Lane.supervised, Lane.permit]
  repeat' split
  all_goals simp [*]

@[simp] theorem Lane.afterResume_frame (l : Lane) :
    l.afterResume.clock = l.clock ∧ l.afterResume.sup = l.sup
    ∧ l.afterResume.settings = l.settings ∧ l.afterResume.cass = l.cass
    ∧ l.afterResume.payout = l.payout ∧ l.afterResume.envelope = l.envelope
    ∧ l.afterResume.journal = l.journal ∧ l.afterResume.loops = l.loops
    ∧ l.afterResume.lockdown = l.lockdown ∧ l.afterResume.ledgers.cash = l.ledgers.cash
    ∧ l.afterResume.bus.mute = l.bus.mute ∧ l.afterResume.free = l.free := by
  unfold Lane.afterResume
  dsimp only
  repeat' split
  all_goals simp [*]

@[simp] theorem Lane.resumed_frame (l : Lane) (h : Sender) :
    (l.resumed h).clock = l.clock ∧ (l.resumed h).sup.lane = l.sup.lane
    ∧ (l.resumed h).sup.laneCount = l.sup.laneCount ∧ (l.resumed h).sup.causes = l.sup.causes
    ∧ (l.resumed h).sup.scanning = l.sup.scanning ∧ (l.resumed h).sup.homing = l.sup.homing
    ∧ (l.resumed h).settings = l.settings ∧ (l.resumed h).cass = l.cass
    ∧ (l.resumed h).journal.cells = l.journal.cells ∧ (l.resumed h).loops = l.loops
    ∧ (l.resumed h).ledgers.cash = l.ledgers.cash ∧ (l.resumed h).bus.mute = l.bus.mute
    ∧ (l.resumed h).free = l.free := by
  unfold Lane.resumed
  dsimp only
  simp [*]

@[simp] theorem Lane.resumeRequest_frame (l : Lane) (h : Sender) :
    (l.resumeRequest h).clock = l.clock ∧ (l.resumeRequest h).sup.lane = l.sup.lane
    ∧ (l.resumeRequest h).sup.laneCount = l.sup.laneCount
    ∧ (l.resumeRequest h).sup.scanning = l.sup.scanning
    ∧ (l.resumeRequest h).sup.homing = l.sup.homing ∧ (l.resumeRequest h).settings = l.settings
    ∧ (l.resumeRequest h).cass = l.cass ∧ (l.resumeRequest h).journal.cells = l.journal.cells
    ∧ (l.resumeRequest h).loops = l.loops ∧ (l.resumeRequest h).bus.mute = l.bus.mute
    ∧ (l.resumeRequest h).free = l.free := by
  simp only [Lane.resumeRequest, Lane.supervised, Lane.permit]
  repeat' split
  all_goals simp [*]

@[simp] theorem Lane.holdExpired_frame (l : Lane) :
    l.holdExpired.clock = l.clock ∧ l.holdExpired.sup = l.sup
    ∧ l.holdExpired.settings = l.settings ∧ l.holdExpired.cass = l.cass
    ∧ l.holdExpired.transport = l.transport ∧ l.holdExpired.payout = l.payout
    ∧ l.holdExpired.drawer = l.drawer ∧ l.holdExpired.intake = l.intake
    ∧ l.holdExpired.envelope = l.envelope ∧ l.holdExpired.journal = l.journal
    ∧ l.holdExpired.loops = l.loops ∧ l.holdExpired.drivers = l.drivers
    ∧ l.holdExpired.ledgers.cash = l.ledgers.cash ∧ l.holdExpired.bus.mute = l.bus.mute
    ∧ l.holdExpired.free = l.free := by
  unfold Lane.holdExpired
  dsimp only
  repeat' split
  all_goals simp [*]

@[simp] theorem Lane.breakHeard_frame (l : Lane) :
    l.breakHeard.clock = l.clock ∧ l.breakHeard.sup.service = l.sup.service
    ∧ l.breakHeard.sup.lane = l.sup.lane ∧ l.breakHeard.sup.laneCount = l.sup.laneCount
    ∧ l.breakHeard.sup.scanning = l.sup.scanning ∧ l.breakHeard.sup.homing = l.sup.homing
    ∧ l.breakHeard.settings = l.settings ∧ l.breakHeard.cass = l.cass
    ∧ l.breakHeard.journal.cells = l.journal.cells ∧ l.breakHeard.loops = l.loops
    ∧ l.breakHeard.bus.mute = l.bus.mute ∧ l.breakHeard.free = l.free := by
  unfold Lane.breakHeard
  repeat' split
  all_goals simp [*]

@[simp] theorem Lane.minOnExpired_frame (l : Lane) :
    l.minOnExpired.clock = l.clock ∧ l.minOnExpired.sup = l.sup
    ∧ l.minOnExpired.settings = l.settings ∧ l.minOnExpired.cass = l.cass
    ∧ l.minOnExpired.transport = l.transport ∧ l.minOnExpired.payout = l.payout
    ∧ l.minOnExpired.drawer = l.drawer ∧ l.minOnExpired.intake = l.intake
    ∧ l.minOnExpired.envelope = l.envelope ∧ l.minOnExpired.journal = l.journal
    ∧ l.minOnExpired.loops = l.loops ∧ l.minOnExpired.lockdown = l.lockdown
    ∧ l.minOnExpired.ledgers = l.ledgers ∧ l.minOnExpired.bus = l.bus
    ∧ l.minOnExpired.free = l.free := by
  unfold Lane.minOnExpired
  dsimp only
  repeat' split
  all_goals simp [*]

@[simp] theorem Lane.lampHoldExpired_frame (l : Lane) :
    l.lampHoldExpired.clock = l.clock ∧ l.lampHoldExpired.sup = l.sup
    ∧ l.lampHoldExpired.settings = l.settings ∧ l.lampHoldExpired.cass = l.cass
    ∧ l.lampHoldExpired.transport = l.transport ∧ l.lampHoldExpired.payout = l.payout
    ∧ l.lampHoldExpired.drawer = l.drawer ∧ l.lampHoldExpired.intake = l.intake
    ∧ l.lampHoldExpired.envelope = l.envelope ∧ l.lampHoldExpired.journal = l.journal
    ∧ l.lampHoldExpired.loops = l.loops ∧ l.lampHoldExpired.lockdown = l.lockdown
    ∧ l.lampHoldExpired.ledgers = l.ledgers ∧ l.lampHoldExpired.bus = l.bus
    ∧ l.lampHoldExpired.free = l.free := by
  unfold Lane.lampHoldExpired
  dsimp only
  repeat' split
  all_goals simp [*]

@[simp] theorem Lane.inventoryRequest_frame (l : Lane) (h : Sender) (selector : Byte) :
    (l.inventoryRequest h selector).clock = l.clock ∧ (l.inventoryRequest h selector).sup = l.sup
    ∧ (l.inventoryRequest h selector).settings = l.settings
    ∧ (l.inventoryRequest h selector).cass = l.cass
    ∧ (l.inventoryRequest h selector).transport = l.transport
    ∧ (l.inventoryRequest h selector).payout = l.payout
    ∧ (l.inventoryRequest h selector).drawer = l.drawer
    ∧ (l.inventoryRequest h selector).intake = l.intake
    ∧ (l.inventoryRequest h selector).envelope = l.envelope
    ∧ (l.inventoryRequest h selector).journal = l.journal
    ∧ (l.inventoryRequest h selector).loops = l.loops
    ∧ (l.inventoryRequest h selector).drivers = l.drivers
    ∧ (l.inventoryRequest h selector).lockdown = l.lockdown
    ∧ (l.inventoryRequest h selector).ledgers = l.ledgers
    ∧ (l.inventoryRequest h selector).bus.mute = l.bus.mute
    ∧ (l.inventoryRequest h selector).free = l.free := by
  unfold Lane.inventoryRequest
  dsimp only
  repeat' split
  all_goals simp [*]

@[simp] theorem Lane.recordRestock_frame (l : Lane) (h : Sender) (target : Option Position)
    (denomination : Option Nat) (count : Nat) :
    (l.recordRestock h target denomination count).clock = l.clock
    ∧ (l.recordRestock h target denomination count).sup = l.sup
    ∧ (l.recordRestock h target denomination count).settings = l.settings
    ∧ (l.recordRestock h target denomination count).cass = l.cass
    ∧ (l.recordRestock h target denomination count).transport = l.transport
    ∧ (l.recordRestock h target denomination count).payout = l.payout
    ∧ (l.recordRestock h target denomination count).drawer = l.drawer
    ∧ (l.recordRestock h target denomination count).intake = l.intake
    ∧ (l.recordRestock h target denomination count).envelope = l.envelope
    ∧ (l.recordRestock h target denomination count).journal.cells = l.journal.cells
    ∧ (l.recordRestock h target denomination count).loops = l.loops
    ∧ (l.recordRestock h target denomination count).drivers = l.drivers
    ∧ (l.recordRestock h target denomination count).lockdown = l.lockdown
    ∧ (l.recordRestock h target denomination count).ledgers = l.ledgers
    ∧ (l.recordRestock h target denomination count).bus.mute = l.bus.mute
    ∧ (l.recordRestock h target denomination count).free = l.free := by
  unfold Lane.recordRestock
  simp [*]

@[simp] theorem Lane.restockPosition_frame (l : Lane) (h : Sender) (i : Position) (count : Nat)
    (denomination : Option Nat) :
    (l.restockPosition h i count denomination).clock = l.clock
    ∧ (l.restockPosition h i count denomination).sup = l.sup
    ∧ (l.restockPosition h i count denomination).settings = l.settings
    ∧ (l.restockPosition h i count denomination).transport = l.transport
    ∧ (l.restockPosition h i count denomination).payout = l.payout
    ∧ (l.restockPosition h i count denomination).drawer = l.drawer
    ∧ (l.restockPosition h i count denomination).intake = l.intake
    ∧ (l.restockPosition h i count denomination).envelope = l.envelope
    ∧ (l.restockPosition h i count denomination).journal.cells = l.journal.cells
    ∧ (l.restockPosition h i count denomination).loops = l.loops
    ∧ (l.restockPosition h i count denomination).drivers = l.drivers
    ∧ (l.restockPosition h i count denomination).lockdown = l.lockdown
    ∧ (l.restockPosition h i count denomination).ledgers = l.ledgers
    ∧ (l.restockPosition h i count denomination).bus.mute = l.bus.mute
    ∧ (l.restockPosition h i count denomination).free = l.free := by
  unfold Lane.restockPosition
  dsimp only
  repeat' split
  all_goals simp [*]

@[simp] theorem Lane.restockBin_frame (l : Lane) (h : Sender) (count : Nat) (denomination : Option
    Nat) :
    (l.restockBin h count denomination).clock = l.clock
    ∧ (l.restockBin h count denomination).sup = l.sup
    ∧ (l.restockBin h count denomination).settings = l.settings
    ∧ (l.restockBin h count denomination).transport = l.transport
    ∧ (l.restockBin h count denomination).payout = l.payout
    ∧ (l.restockBin h count denomination).drawer = l.drawer
    ∧ (l.restockBin h count denomination).intake = l.intake
    ∧ (l.restockBin h count denomination).envelope = l.envelope
    ∧ (l.restockBin h count denomination).journal.cells = l.journal.cells
    ∧ (l.restockBin h count denomination).loops = l.loops
    ∧ (l.restockBin h count denomination).drivers = l.drivers
    ∧ (l.restockBin h count denomination).lockdown = l.lockdown
    ∧ (l.restockBin h count denomination).ledgers = l.ledgers
    ∧ (l.restockBin h count denomination).bus.mute = l.bus.mute
    ∧ (l.restockBin h count denomination).free = l.free := by
  unfold Lane.restockBin
  dsimp only
  repeat' split
  all_goals simp [*]

@[simp] theorem Lane.restockRequest_frame (l : Lane) (h : Sender) (target : Byte) (count
    denomination : Nat) :
    (l.restockRequest h target count denomination).clock = l.clock
    ∧ (l.restockRequest h target count denomination).sup = l.sup
    ∧ (l.restockRequest h target count denomination).settings = l.settings
    ∧ (l.restockRequest h target count denomination).transport = l.transport
    ∧ (l.restockRequest h target count denomination).payout = l.payout
    ∧ (l.restockRequest h target count denomination).drawer = l.drawer
    ∧ (l.restockRequest h target count denomination).intake = l.intake
    ∧ (l.restockRequest h target count denomination).envelope = l.envelope
    ∧ (l.restockRequest h target count denomination).journal.cells = l.journal.cells
    ∧ (l.restockRequest h target count denomination).loops = l.loops
    ∧ (l.restockRequest h target count denomination).drivers = l.drivers
    ∧ (l.restockRequest h target count denomination).lockdown = l.lockdown
    ∧ (l.restockRequest h target count denomination).ledgers = l.ledgers
    ∧ (l.restockRequest h target count denomination).bus.mute = l.bus.mute
    ∧ (l.restockRequest h target count denomination).free = l.free := by
  simp only [Lane.restockRequest, Lane.supervised, Lane.permit]
  repeat' split
  all_goals simp [*]

@[simp] theorem Lane.cassetteRemoved_frame (l : Lane) (i : Position) :
    (l.cassetteRemoved i).clock = l.clock ∧ (l.cassetteRemoved i).sup = l.sup
    ∧ (l.cassetteRemoved i).settings = l.settings ∧ (l.cassetteRemoved i).intake = l.intake
    ∧ (l.cassetteRemoved i).envelope = l.envelope
    ∧ (l.cassetteRemoved i).journal.cells = l.journal.cells
    ∧ (l.cassetteRemoved i).loops = l.loops ∧ (l.cassetteRemoved i).lockdown = l.lockdown
    ∧ (l.cassetteRemoved i).bus.mute = l.bus.mute ∧ (l.cassetteRemoved i).free = l.free := by
  unfold Lane.cassetteRemoved
  dsimp only
  repeat' split
  all_goals simp [*]

@[simp] theorem Lane.cassetteInserted_frame (l : Lane) (i : Position) :
    (l.cassetteInserted i).clock = l.clock ∧ (l.cassetteInserted i).sup = l.sup
    ∧ (l.cassetteInserted i).settings = l.settings
    ∧ (l.cassetteInserted i).transport = l.transport ∧ (l.cassetteInserted i).payout = l.payout
    ∧ (l.cassetteInserted i).drawer = l.drawer ∧ (l.cassetteInserted i).intake = l.intake
    ∧ (l.cassetteInserted i).envelope = l.envelope ∧ (l.cassetteInserted i).journal = l.journal
    ∧ (l.cassetteInserted i).loops = l.loops ∧ (l.cassetteInserted i).drivers = l.drivers
    ∧ (l.cassetteInserted i).lockdown = l.lockdown ∧ (l.cassetteInserted i).ledgers = l.ledgers
    ∧ (l.cassetteInserted i).bus.mute = l.bus.mute ∧ (l.cassetteInserted i).free = l.free := by
  unfold Lane.cassetteInserted
  dsimp only
  repeat' split
  all_goals simp [*]

@[simp] theorem Lane.endArrival_frame (l : Lane) (e : DrawerEnd) :
    (l.endArrival e).clock = l.clock ∧ (l.endArrival e).sup.service = l.sup.service
    ∧ (l.endArrival e).sup.lane = l.sup.lane ∧ (l.endArrival e).sup.laneCount = l.sup.laneCount
    ∧ (l.endArrival e).sup.scanning = l.sup.scanning ∧ (l.endArrival e).settings = l.settings
    ∧ (l.endArrival e).cass = l.cass ∧ (l.endArrival e).envelope = l.envelope
    ∧ (l.endArrival e).journal.cells = l.journal.cells ∧ (l.endArrival e).loops = l.loops
    ∧ (l.endArrival e).lockdown = l.lockdown ∧ (l.endArrival e).bus.mute = l.bus.mute
    ∧ (l.endArrival e).free = l.free := by
  unfold Lane.endArrival
  dsimp only
  repeat' split
  all_goals simp [*]

@[simp] theorem Lane.travelExpired_frame (l : Lane) :
    l.travelExpired.clock = l.clock ∧ l.travelExpired.sup.lane = l.sup.lane
    ∧ l.travelExpired.sup.laneCount = l.sup.laneCount
    ∧ l.travelExpired.sup.scanning = l.sup.scanning ∧ l.travelExpired.settings = l.settings
    ∧ l.travelExpired.cass = l.cass ∧ l.travelExpired.journal.cells = l.journal.cells
    ∧ l.travelExpired.loops = l.loops ∧ l.travelExpired.lockdown = l.lockdown
    ∧ l.travelExpired.bus.mute = l.bus.mute ∧ l.travelExpired.free = l.free := by
  unfold Lane.travelExpired
  repeat' split
  all_goals simp [*]

@[simp] theorem Lane.redrive_frame (l : Lane) (e : DrawerEnd) :
    (l.redrive e).clock = l.clock ∧ (l.redrive e).sup = l.sup
    ∧ (l.redrive e).settings = l.settings ∧ (l.redrive e).cass = l.cass
    ∧ (l.redrive e).transport = l.transport ∧ (l.redrive e).payout = l.payout
    ∧ (l.redrive e).drawer.movement = l.drawer.movement
    ∧ (l.redrive e).drawer.position = l.drawer.position ∧ (l.redrive e).intake = l.intake
    ∧ (l.redrive e).envelope = l.envelope ∧ (l.redrive e).journal = l.journal
    ∧ (l.redrive e).loops = l.loops ∧ (l.redrive e).lockdown = l.lockdown
    ∧ (l.redrive e).ledgers = l.ledgers ∧ (l.redrive e).bus = l.bus ∧ (l.redrive e).free = l.free := by
  unfold Lane.redrive
  dsimp only
  simp [*]

@[simp] theorem Lane.sensorLost_frame (l : Lane) (e : DrawerEnd) :
    (l.sensorLost e).clock = l.clock ∧ (l.sensorLost e).sup = l.sup
    ∧ (l.sensorLost e).settings = l.settings ∧ (l.sensorLost e).cass = l.cass
    ∧ (l.sensorLost e).transport = l.transport ∧ (l.sensorLost e).intake = l.intake
    ∧ (l.sensorLost e).envelope = l.envelope ∧ (l.sensorLost e).journal = l.journal
    ∧ (l.sensorLost e).loops = l.loops ∧ (l.sensorLost e).lockdown = l.lockdown
    ∧ (l.sensorLost e).ledgers = l.ledgers ∧ (l.sensorLost e).bus = l.bus
    ∧ (l.sensorLost e).free = l.free := by
  unfold Lane.sensorLost
  dsimp only
  repeat' split
  all_goals simp [*]

@[simp] theorem Lane.trayReading_frame (l : Lane) (occupied : Bool) :
    (l.trayReading occupied).clock = l.clock ∧ (l.trayReading occupied).sup = l.sup
    ∧ (l.trayReading occupied).settings = l.settings ∧ (l.trayReading occupied).cass = l.cass
    ∧ (l.trayReading occupied).transport = l.transport
    ∧ (l.trayReading occupied).payout = l.payout
    ∧ (l.trayReading occupied).drawer.movement = l.drawer.movement
    ∧ (l.trayReading occupied).drawer.position = l.drawer.position
    ∧ (l.trayReading occupied).intake = l.intake ∧ (l.trayReading occupied).envelope = l.envelope
    ∧ (l.trayReading occupied).journal = l.journal ∧ (l.trayReading occupied).loops = l.loops
    ∧ (l.trayReading occupied).drivers = l.drivers
    ∧ (l.trayReading occupied).lockdown = l.lockdown
    ∧ (l.trayReading occupied).ledgers = l.ledgers ∧ (l.trayReading occupied).bus = l.bus
    ∧ (l.trayReading occupied).free = l.free := by
  unfold Lane.trayReading
  dsimp only
  repeat' split
  all_goals simp [*]

@[simp] theorem Lane.takeFiltered_frame (l : Lane) :
    l.takeFiltered.clock = l.clock ∧ l.takeFiltered.sup.service = l.sup.service
    ∧ l.takeFiltered.sup.lane = l.sup.lane ∧ l.takeFiltered.sup.laneCount = l.sup.laneCount
    ∧ l.takeFiltered.sup.scanning = l.sup.scanning ∧ l.takeFiltered.sup.homing = l.sup.homing
    ∧ l.takeFiltered.settings = l.settings ∧ l.takeFiltered.cass = l.cass
    ∧ l.takeFiltered.envelope = l.envelope ∧ l.takeFiltered.journal.cells = l.journal.cells
    ∧ l.takeFiltered.loops = l.loops ∧ l.takeFiltered.lockdown = l.lockdown
    ∧ l.takeFiltered.bus.mute = l.bus.mute ∧ l.takeFiltered.free = l.free := by
  unfold Lane.takeFiltered
  repeat' split
  all_goals simp [*]

@[simp] theorem Lane.takeExpired_frame (l : Lane) :
    l.takeExpired.clock = l.clock ∧ l.takeExpired.sup.service = l.sup.service
    ∧ l.takeExpired.sup.lane = l.sup.lane ∧ l.takeExpired.sup.laneCount = l.sup.laneCount
    ∧ l.takeExpired.sup.scanning = l.sup.scanning ∧ l.takeExpired.sup.homing = l.sup.homing
    ∧ l.takeExpired.settings = l.settings ∧ l.takeExpired.cass = l.cass
    ∧ l.takeExpired.envelope = l.envelope ∧ l.takeExpired.journal.cells = l.journal.cells
    ∧ l.takeExpired.loops = l.loops ∧ l.takeExpired.lockdown = l.lockdown
    ∧ l.takeExpired.bus.mute = l.bus.mute ∧ l.takeExpired.free = l.free := by
  unfold Lane.takeExpired
  repeat' split
  all_goals simp [*]

@[simp] theorem Lane.placed_frame (l : Lane) :
    l.placed.clock = l.clock ∧ l.placed.sup.service = l.sup.service
    ∧ l.placed.sup.lane = l.sup.lane ∧ l.placed.sup.laneCount = l.sup.laneCount
    ∧ l.placed.sup.scanning = l.sup.scanning ∧ l.placed.sup.homing = l.sup.homing
    ∧ l.placed.settings = l.settings ∧ l.placed.cass = l.cass ∧ l.placed.envelope = l.envelope
    ∧ l.placed.journal.cells = l.journal.cells ∧ l.placed.loops = l.loops
    ∧ l.placed.lockdown = l.lockdown ∧ l.placed.bus.mute = l.bus.mute ∧ l.placed.free = l.free := by
  unfold Lane.placed
  dsimp only
  repeat' split
  all_goals simp [*]

@[simp] theorem Lane.waitExpired_frame (l : Lane) :
    l.waitExpired.clock = l.clock ∧ l.waitExpired.sup.service = l.sup.service
    ∧ l.waitExpired.sup.lane = l.sup.lane ∧ l.waitExpired.sup.laneCount = l.sup.laneCount
    ∧ l.waitExpired.sup.scanning = l.sup.scanning ∧ l.waitExpired.sup.homing = l.sup.homing
    ∧ l.waitExpired.settings = l.settings ∧ l.waitExpired.cass = l.cass
    ∧ l.waitExpired.envelope = l.envelope ∧ l.waitExpired.journal.cells = l.journal.cells
    ∧ l.waitExpired.loops = l.loops ∧ l.waitExpired.lockdown = l.lockdown
    ∧ l.waitExpired.bus.mute = l.bus.mute ∧ l.waitExpired.free = l.free := by
  unfold Lane.waitExpired
  repeat' split
  all_goals simp [*]

@[simp] theorem Lane.trayEmptied_frame (l : Lane) :
    l.trayEmptied.clock = l.clock ∧ l.trayEmptied.sup.lane = l.sup.lane
    ∧ l.trayEmptied.sup.laneCount = l.sup.laneCount ∧ l.trayEmptied.sup.scanning = l.sup.scanning
    ∧ l.trayEmptied.settings = l.settings ∧ l.trayEmptied.cass = l.cass
    ∧ l.trayEmptied.journal.cells = l.journal.cells ∧ l.trayEmptied.loops = l.loops
    ∧ l.trayEmptied.lockdown = l.lockdown ∧ l.trayEmptied.bus.mute = l.bus.mute
    ∧ l.trayEmptied.free = l.free := by
  unfold Lane.trayEmptied
  dsimp only
  repeat' split
  all_goals simp [*]

@[simp] theorem Lane.admitPayout_frame (l : Lane) (h : Sender) (amount : Nat) (mode : MixMode) (m :
    Mix) :
    (l.admitPayout h amount mode m).clock = l.clock ∧ (l.admitPayout h amount mode m).sup = l.sup
    ∧ (l.admitPayout h amount mode m).settings = l.settings
    ∧ (l.admitPayout h amount mode m).cass = l.cass
    ∧ (l.admitPayout h amount mode m).transport = l.transport
    ∧ (l.admitPayout h amount mode m).drawer = l.drawer
    ∧ (l.admitPayout h amount mode m).intake = l.intake
    ∧ (l.admitPayout h amount mode m).journal.cells = l.journal.cells
    ∧ (l.admitPayout h amount mode m).loops = l.loops
    ∧ (l.admitPayout h amount mode m).lockdown = l.lockdown
    ∧ (l.admitPayout h amount mode m).ledgers = l.ledgers
    ∧ (l.admitPayout h amount mode m).bus.mute = l.bus.mute
    ∧ (l.admitPayout h amount mode m).free = l.free := by
  unfold Lane.admitPayout
  dsimp only
  simp [*]

@[simp] theorem Lane.payoutRequest_frame (l : Lane) (h : Sender) (amount : Nat) (code : Byte) :
    (l.payoutRequest h amount code).clock = l.clock ∧ (l.payoutRequest h amount code).sup = l.sup
    ∧ (l.payoutRequest h amount code).settings = l.settings
    ∧ (l.payoutRequest h amount code).cass = l.cass
    ∧ (l.payoutRequest h amount code).transport = l.transport
    ∧ (l.payoutRequest h amount code).drawer = l.drawer
    ∧ (l.payoutRequest h amount code).intake = l.intake
    ∧ (l.payoutRequest h amount code).journal.cells = l.journal.cells
    ∧ (l.payoutRequest h amount code).loops = l.loops
    ∧ (l.payoutRequest h amount code).lockdown = l.lockdown
    ∧ (l.payoutRequest h amount code).ledgers = l.ledgers
    ∧ (l.payoutRequest h amount code).bus.mute = l.bus.mute
    ∧ (l.payoutRequest h amount code).free = l.free := by
  simp only [Lane.payoutRequest, Lane.attending, Lane.permit]
  repeat' split
  all_goals simp [*]

@[simp] theorem Lane.recallRequest_frame (l : Lane) (h : Sender) :
    (l.recallRequest h).clock = l.clock ∧ (l.recallRequest h).sup.service = l.sup.service
    ∧ (l.recallRequest h).sup.lane = l.sup.lane
    ∧ (l.recallRequest h).sup.laneCount = l.sup.laneCount
    ∧ (l.recallRequest h).sup.scanning = l.sup.scanning
    ∧ (l.recallRequest h).sup.homing = l.sup.homing ∧ (l.recallRequest h).settings = l.settings
    ∧ (l.recallRequest h).cass = l.cass ∧ (l.recallRequest h).envelope = l.envelope
    ∧ (l.recallRequest h).journal.cells = l.journal.cells ∧ (l.recallRequest h).loops = l.loops
    ∧ (l.recallRequest h).lockdown = l.lockdown ∧ (l.recallRequest h).bus.mute = l.bus.mute
    ∧ (l.recallRequest h).free = l.free := by
  simp only [Lane.recallRequest, Lane.attending, Lane.permit]
  repeat' split
  all_goals simp [*]

@[simp] theorem Lane.progress_frame (l : Lane) :
    l.progress.clock = l.clock ∧ l.progress.sup = l.sup ∧ l.progress.settings = l.settings
    ∧ l.progress.cass = l.cass ∧ l.progress.intake = l.intake ∧ l.progress.envelope = l.envelope
    ∧ l.progress.journal.cells = l.journal.cells ∧ l.progress.loops = l.loops
    ∧ l.progress.lockdown = l.lockdown ∧ l.progress.bus.mute = l.bus.mute
    ∧ l.progress.free = l.free := by
  unfold Lane.progress
  dsimp only
  repeat' split
  all_goals simp [*]

@[simp] theorem Lane.makePick_frame (l : Lane) :
    l.makePick.clock = l.clock ∧ l.makePick.sup = l.sup ∧ l.makePick.settings = l.settings
    ∧ l.makePick.intake = l.intake ∧ l.makePick.envelope = l.envelope
    ∧ l.makePick.journal.cells = l.journal.cells ∧ l.makePick.loops = l.loops
    ∧ l.makePick.lockdown = l.lockdown ∧ l.makePick.bus.mute = l.bus.mute
    ∧ l.makePick.free = l.free := by
  unfold Lane.makePick
  dsimp only
  repeat' split
  all_goals simp [*]

@[simp] theorem Lane.divert_frame (l : Lane) (p : Payout) (n : Nat) :
    (l.divert p n).1.clock = l.clock ∧ (l.divert p n).1.sup = l.sup
    ∧ (l.divert p n).1.settings = l.settings ∧ (l.divert p n).1.transport = l.transport
    ∧ (l.divert p n).1.payout = l.payout ∧ (l.divert p n).1.drawer = l.drawer
    ∧ (l.divert p n).1.intake = l.intake ∧ (l.divert p n).1.envelope = l.envelope
    ∧ (l.divert p n).1.journal = l.journal ∧ (l.divert p n).1.loops = l.loops
    ∧ (l.divert p n).1.drivers = l.drivers ∧ (l.divert p n).1.lockdown = l.lockdown
    ∧ (l.divert p n).1.ledgers = l.ledgers ∧ (l.divert p n).1.bus.mute = l.bus.mute
    ∧ (l.divert p n).1.free = l.free := by
  induction n generalizing l p with
  | zero => simp [Lane.divert]
  | succ n ih =>
    unfold Lane.divert Lane.binAccept
    cases l.binRoom <;> simp [ih]

@[simp] theorem Lane.diverted_frame (l : Lane) (p : Payout) (n : Nat) :
    (l.diverted p n).clock = l.clock ∧ (l.diverted p n).sup.lane = l.sup.lane
    ∧ (l.diverted p n).sup.laneCount = l.sup.laneCount
    ∧ (l.diverted p n).sup.scanning = l.sup.scanning ∧ (l.diverted p n).sup.homing = l.sup.homing
    ∧ (l.diverted p n).settings = l.settings ∧ (l.diverted p n).intake = l.intake
    ∧ (l.diverted p n).journal.cells = l.journal.cells ∧ (l.diverted p n).loops = l.loops
    ∧ (l.diverted p n).lockdown = l.lockdown ∧ (l.diverted p n).bus.mute = l.bus.mute
    ∧ (l.diverted p n).free = l.free := by
  unfold Lane.diverted
  dsimp only
  repeat' split
  all_goals simp [*]

@[simp] theorem Lane.checked_frame (l : Lane) (r : CheckOutcome) :
    (l.checked r).clock = l.clock ∧ (l.checked r).sup.lane = l.sup.lane
    ∧ (l.checked r).sup.laneCount = l.sup.laneCount ∧ (l.checked r).sup.scanning = l.sup.scanning
    ∧ (l.checked r).sup.homing = l.sup.homing ∧ (l.checked r).settings = l.settings
    ∧ (l.checked r).intake = l.intake ∧ (l.checked r).journal.cells = l.journal.cells
    ∧ (l.checked r).loops = l.loops ∧ (l.checked r).lockdown = l.lockdown
    ∧ (l.checked r).bus.mute = l.bus.mute ∧ (l.checked r).free = l.free := by
  unfold Lane.checked
  dsimp only
  repeat' split
  all_goals simp [*]

@[simp] theorem Lane.missed_frame (l : Lane) :
    l.missed.clock = l.clock ∧ l.missed.sup = l.sup ∧ l.missed.settings = l.settings
    ∧ l.missed.intake = l.intake ∧ l.missed.envelope = l.envelope
    ∧ l.missed.journal.cells = l.journal.cells ∧ l.missed.loops = l.loops
    ∧ l.missed.lockdown = l.lockdown ∧ l.missed.bus.mute = l.bus.mute ∧ l.missed.free = l.free := by
  unfold Lane.missed
  dsimp only
  repeat' split
  all_goals simp [*]

@[simp] theorem Lane.remixAnswered_frame (l : Lane) :
    l.remixAnswered.clock = l.clock ∧ l.remixAnswered.sup = l.sup
    ∧ l.remixAnswered.settings = l.settings ∧ l.remixAnswered.cass = l.cass
    ∧ l.remixAnswered.intake = l.intake ∧ l.remixAnswered.envelope = l.envelope
    ∧ l.remixAnswered.journal.cells = l.journal.cells ∧ l.remixAnswered.loops = l.loops
    ∧ l.remixAnswered.lockdown = l.lockdown ∧ l.remixAnswered.bus.mute = l.bus.mute
    ∧ l.remixAnswered.free = l.free := by
  unfold Lane.remixAnswered
  dsimp only
  repeat' split
  all_goals simp [*]

@[simp] theorem Lane.jam_frame (l : Lane) (at_ : Option Position) :
    (l.jam at_).clock = l.clock ∧ (l.jam at_).sup.lane = l.sup.lane
    ∧ (l.jam at_).sup.laneCount = l.sup.laneCount ∧ (l.jam at_).sup.scanning = l.sup.scanning
    ∧ (l.jam at_).settings = l.settings ∧ (l.jam at_).journal.cells = l.journal.cells
    ∧ (l.jam at_).loops = l.loops ∧ (l.jam at_).lockdown = l.lockdown
    ∧ (l.jam at_).bus.mute = l.bus.mute := by
  unfold Lane.jam
  dsimp only
  repeat' split
  all_goals simp [*]

@[simp] theorem Lane.trayDelivery_frame (l : Lane) :
    l.trayDelivery.clock = l.clock ∧ l.trayDelivery.sup.lane = l.sup.lane
    ∧ l.trayDelivery.sup.laneCount = l.sup.laneCount
    ∧ l.trayDelivery.sup.scanning = l.sup.scanning ∧ l.trayDelivery.settings = l.settings
    ∧ l.trayDelivery.drawer.movement = l.drawer.movement
    ∧ l.trayDelivery.drawer.position = l.drawer.position
    ∧ l.trayDelivery.journal.cells = l.journal.cells ∧ l.trayDelivery.loops = l.loops
    ∧ l.trayDelivery.lockdown = l.lockdown ∧ l.trayDelivery.bus.mute = l.bus.mute
    ∧ l.trayDelivery.free = l.free := by
  unfold Lane.trayDelivery Lane.binAccept
  cases hb : l.binRoom <;> simp only [if_true, if_false, Bool.false_eq_true] <;> (repeat' split) <;> simp [*]

@[simp] theorem Lane.purgeDelivery_frame (l : Lane) :
    l.purgeDelivery.clock = l.clock ∧ l.purgeDelivery.sup.lane = l.sup.lane
    ∧ l.purgeDelivery.sup.laneCount = l.sup.laneCount
    ∧ l.purgeDelivery.sup.scanning = l.sup.scanning ∧ l.purgeDelivery.sup.homing = l.sup.homing
    ∧ l.purgeDelivery.settings = l.settings ∧ l.purgeDelivery.drawer.movement = l.drawer.movement
    ∧ l.purgeDelivery.drawer.position = l.drawer.position ∧ l.purgeDelivery.intake = l.intake
    ∧ l.purgeDelivery.journal.cells = l.journal.cells ∧ l.purgeDelivery.loops = l.loops
    ∧ l.purgeDelivery.lockdown = l.lockdown ∧ l.purgeDelivery.bus.mute = l.bus.mute
    ∧ l.purgeDelivery.free = l.free := by
  unfold Lane.purgeDelivery Lane.binAccept
  cases hb : l.binRoom <;> simp only [if_true, if_false, Bool.false_eq_true] <;> (repeat' split) <;> simp [*]

@[simp] theorem Lane.countDelivery_frame (l : Lane) :
    l.countDelivery.clock = l.clock ∧ l.countDelivery.sup.lane = l.sup.lane
    ∧ l.countDelivery.sup.laneCount = l.sup.laneCount
    ∧ l.countDelivery.sup.scanning = l.sup.scanning ∧ l.countDelivery.settings = l.settings
    ∧ l.countDelivery.drawer.movement = l.drawer.movement
    ∧ l.countDelivery.drawer.position = l.drawer.position
    ∧ l.countDelivery.journal.cells = l.journal.cells ∧ l.countDelivery.loops = l.loops
    ∧ l.countDelivery.lockdown = l.lockdown ∧ l.countDelivery.bus.mute = l.bus.mute
    ∧ l.countDelivery.free = l.free := by
  unfold Lane.countDelivery
  repeat' split
  all_goals simp [*]

@[simp] theorem Lane.delivery_frame (l : Lane) (source : NoteSource) :
    (l.delivery source).clock = l.clock ∧ (l.delivery source).sup.lane = l.sup.lane
    ∧ (l.delivery source).sup.laneCount = l.sup.laneCount
    ∧ (l.delivery source).sup.scanning = l.sup.scanning
    ∧ (l.delivery source).settings = l.settings
    ∧ (l.delivery source).journal.cells = l.journal.cells ∧ (l.delivery source).loops = l.loops
    ∧ (l.delivery source).lockdown = l.lockdown ∧ (l.delivery source).bus.mute = l.bus.mute := by
  unfold Lane.delivery
  repeat' split
  all_goals simp [*]

@[simp] theorem Lane.admitIntake_frame (l : Lane) (h : Sender) (maximum : Nat) :
    (l.admitIntake h maximum).clock = l.clock
    ∧ (l.admitIntake h maximum).sup.service = l.sup.service
    ∧ (l.admitIntake h maximum).sup.lane = l.sup.lane
    ∧ (l.admitIntake h maximum).sup.laneCount = l.sup.laneCount
    ∧ (l.admitIntake h maximum).sup.scanning = l.sup.scanning
    ∧ (l.admitIntake h maximum).sup.homing = l.sup.homing
    ∧ (l.admitIntake h maximum).settings = l.settings ∧ (l.admitIntake h maximum).cass = l.cass
    ∧ (l.admitIntake h maximum).envelope = l.envelope
    ∧ (l.admitIntake h maximum).journal.cells = l.journal.cells
    ∧ (l.admitIntake h maximum).loops = l.loops ∧ (l.admitIntake h maximum).lockdown = l.lockdown
    ∧ (l.admitIntake h maximum).bus.mute = l.bus.mute ∧ (l.admitIntake h maximum).free = l.free := by
  unfold Lane.admitIntake
  dsimp only
  simp [*]

@[simp] theorem Lane.intakeRequest_frame (l : Lane) (h : Sender) (code : Byte) :
    (l.intakeRequest h code).clock = l.clock
    ∧ (l.intakeRequest h code).sup.service = l.sup.service
    ∧ (l.intakeRequest h code).sup.lane = l.sup.lane
    ∧ (l.intakeRequest h code).sup.laneCount = l.sup.laneCount
    ∧ (l.intakeRequest h code).sup.scanning = l.sup.scanning
    ∧ (l.intakeRequest h code).sup.homing = l.sup.homing
    ∧ (l.intakeRequest h code).settings = l.settings ∧ (l.intakeRequest h code).cass = l.cass
    ∧ (l.intakeRequest h code).envelope = l.envelope
    ∧ (l.intakeRequest h code).journal.cells = l.journal.cells
    ∧ (l.intakeRequest h code).loops = l.loops ∧ (l.intakeRequest h code).lockdown = l.lockdown
    ∧ (l.intakeRequest h code).bus.mute = l.bus.mute ∧ (l.intakeRequest h code).free = l.free := by
  simp only [Lane.intakeRequest, Lane.attending, Lane.permit]
  repeat' split
  all_goals simp [*]

@[simp] theorem Lane.toSuspect_frame (l : Lane) (i : Intake) :
    (l.toSuspect i).clock = l.clock ∧ (l.toSuspect i).sup.lane = l.sup.lane
    ∧ (l.toSuspect i).sup.laneCount = l.sup.laneCount
    ∧ (l.toSuspect i).sup.scanning = l.sup.scanning ∧ (l.toSuspect i).sup.homing = l.sup.homing
    ∧ (l.toSuspect i).settings = l.settings ∧ (l.toSuspect i).transport = l.transport
    ∧ (l.toSuspect i).drawer.movement = l.drawer.movement
    ∧ (l.toSuspect i).drawer.position = l.drawer.position
    ∧ (l.toSuspect i).journal.cells = l.journal.cells ∧ (l.toSuspect i).loops = l.loops
    ∧ (l.toSuspect i).lockdown = l.lockdown ∧ (l.toSuspect i).ledgers.cash = l.ledgers.cash
    ∧ (l.toSuspect i).bus.mute = l.bus.mute ∧ (l.toSuspect i).free = l.free := by
  unfold Lane.toSuspect Lane.binAccept
  cases hb : l.binRoom <;> simp only [if_true, if_false, Bool.false_eq_true] <;> simp [*]

@[simp] theorem Lane.route_frame (l : Lane) (i : Intake) (r : HeadReport) :
    (l.route i r).clock = l.clock ∧ (l.route i r).sup.lane = l.sup.lane
    ∧ (l.route i r).sup.laneCount = l.sup.laneCount ∧ (l.route i r).sup.scanning = l.sup.scanning
    ∧ (l.route i r).sup.homing = l.sup.homing ∧ (l.route i r).settings = l.settings
    ∧ (l.route i r).drawer.movement = l.drawer.movement
    ∧ (l.route i r).drawer.position = l.drawer.position
    ∧ (l.route i r).journal.cells = l.journal.cells ∧ (l.route i r).loops = l.loops
    ∧ (l.route i r).lockdown = l.lockdown ∧ (l.route i r).ledgers.cash = l.ledgers.cash
    ∧ (l.route i r).bus.mute = l.bus.mute ∧ (l.route i r).free = l.free := by
  unfold Lane.route
  repeat' split
  all_goals simp [*]

@[simp] theorem Lane.feed_frame (l : Lane) (r : HeadReport) :
    (l.feed r).clock = l.clock ∧ (l.feed r).sup.lane = l.sup.lane
    ∧ (l.feed r).sup.laneCount = l.sup.laneCount ∧ (l.feed r).sup.scanning = l.sup.scanning
    ∧ (l.feed r).sup.homing = l.sup.homing ∧ (l.feed r).settings = l.settings
    ∧ (l.feed r).journal.cells = l.journal.cells ∧ (l.feed r).loops = l.loops
    ∧ (l.feed r).lockdown = l.lockdown ∧ (l.feed r).ledgers.cash = l.ledgers.cash
    ∧ (l.feed r).bus.mute = l.bus.mute ∧ (l.feed r).free = l.free := by
  unfold Lane.feed
  repeat' split
  all_goals simp [*]

@[simp] theorem Lane.feedExhausted_frame (l : Lane) :
    l.feedExhausted.clock = l.clock ∧ l.feedExhausted.sup = l.sup
    ∧ l.feedExhausted.settings = l.settings ∧ l.feedExhausted.cass = l.cass
    ∧ l.feedExhausted.payout = l.payout ∧ l.feedExhausted.envelope = l.envelope
    ∧ l.feedExhausted.journal.cells = l.journal.cells ∧ l.feedExhausted.loops = l.loops
    ∧ l.feedExhausted.lockdown = l.lockdown ∧ l.feedExhausted.ledgers = l.ledgers
    ∧ l.feedExhausted.bus.mute = l.bus.mute ∧ l.feedExhausted.free = l.free := by
  unfold Lane.feedExhausted
  dsimp only
  repeat' split
  all_goals simp [*]

@[simp] theorem Lane.takeEscrowSlot_frame (l : Lane) (i : Intake) :
    (l.takeEscrowSlot i).1.clock = l.clock ∧ (l.takeEscrowSlot i).1.sup = l.sup
    ∧ (l.takeEscrowSlot i).1.settings = l.settings ∧ (l.takeEscrowSlot i).1.cass = l.cass
    ∧ (l.takeEscrowSlot i).1.transport = l.transport ∧ (l.takeEscrowSlot i).1.payout = l.payout
    ∧ (l.takeEscrowSlot i).1.drawer = l.drawer ∧ (l.takeEscrowSlot i).1.intake = l.intake
    ∧ (l.takeEscrowSlot i).1.envelope = l.envelope
    ∧ (l.takeEscrowSlot i).1.journal.cells = l.journal.cells
    ∧ (l.takeEscrowSlot i).1.loops = l.loops ∧ (l.takeEscrowSlot i).1.drivers = l.drivers
    ∧ (l.takeEscrowSlot i).1.lockdown = l.lockdown ∧ (l.takeEscrowSlot i).1.ledgers = l.ledgers
    ∧ (l.takeEscrowSlot i).1.bus.mute = l.bus.mute ∧ (l.takeEscrowSlot i).1.free = l.free := by
  unfold Lane.takeEscrowSlot
  repeat' split
  all_goals simp [*]

@[simp] theorem Lane.keepRequest_frame (l : Lane) (h : Sender) :
    (l.keepRequest h).clock = l.clock ∧ (l.keepRequest h).sup = l.sup
    ∧ (l.keepRequest h).settings = l.settings ∧ (l.keepRequest h).cass = l.cass
    ∧ (l.keepRequest h).transport = l.transport ∧ (l.keepRequest h).payout = l.payout
    ∧ (l.keepRequest h).drawer = l.drawer ∧ (l.keepRequest h).envelope = l.envelope
    ∧ (l.keepRequest h).journal.cells = l.journal.cells ∧ (l.keepRequest h).loops = l.loops
    ∧ (l.keepRequest h).drivers = l.drivers ∧ (l.keepRequest h).lockdown = l.lockdown
    ∧ (l.keepRequest h).ledgers = l.ledgers ∧ (l.keepRequest h).bus.mute = l.bus.mute
    ∧ (l.keepRequest h).free = l.free := by
  simp only [Lane.keepRequest, Lane.attending, Lane.permit]
  repeat' split
  all_goals simp [*]

@[simp] theorem Lane.kept_frame (l : Lane) (i : Intake) :
    (l.kept i).clock = l.clock ∧ (l.kept i).sup = l.sup ∧ (l.kept i).settings = l.settings
    ∧ (l.kept i).cass = l.cass ∧ (l.kept i).transport = l.transport ∧ (l.kept i).payout = l.payout
    ∧ (l.kept i).drawer = l.drawer ∧ (l.kept i).envelope = l.envelope
    ∧ (l.kept i).journal.cells = l.journal.cells ∧ (l.kept i).loops = l.loops
    ∧ (l.kept i).drivers = l.drivers ∧ (l.kept i).lockdown = l.lockdown
    ∧ (l.kept i).ledgers = l.ledgers ∧ (l.kept i).bus.mute = l.bus.mute ∧ (l.kept i).free = l.free := by
  unfold Lane.kept
  dsimp only
  simp [*]

@[simp] theorem Lane.stackNote_frame (l : Lane) :
    l.stackNote.clock = l.clock ∧ l.stackNote.sup = l.sup ∧ l.stackNote.settings = l.settings
    ∧ l.stackNote.transport = l.transport ∧ l.stackNote.payout = l.payout
    ∧ l.stackNote.drawer = l.drawer ∧ l.stackNote.envelope = l.envelope
    ∧ l.stackNote.journal.cells = l.journal.cells ∧ l.stackNote.loops = l.loops
    ∧ l.stackNote.drivers = l.drivers ∧ l.stackNote.lockdown = l.lockdown
    ∧ l.stackNote.ledgers = l.ledgers ∧ l.stackNote.bus.mute = l.bus.mute
    ∧ l.stackNote.free = l.free := by
  unfold Lane.stackNote
  dsimp only
  repeat' split
  all_goals simp [*]

@[simp] theorem Lane.beginGiveback_frame (l : Lane) (i : Intake) (cause : GivebackCause) :
    (l.beginGiveback i cause).clock = l.clock ∧ (l.beginGiveback i cause).sup = l.sup
    ∧ (l.beginGiveback i cause).settings = l.settings ∧ (l.beginGiveback i cause).cass = l.cass
    ∧ (l.beginGiveback i cause).transport = l.transport
    ∧ (l.beginGiveback i cause).payout = l.payout ∧ (l.beginGiveback i cause).drawer = l.drawer
    ∧ (l.beginGiveback i cause).envelope = l.envelope
    ∧ (l.beginGiveback i cause).journal.cells = l.journal.cells
    ∧ (l.beginGiveback i cause).loops = l.loops ∧ (l.beginGiveback i cause).drivers = l.drivers
    ∧ (l.beginGiveback i cause).lockdown = l.lockdown
    ∧ (l.beginGiveback i cause).ledgers = l.ledgers
    ∧ (l.beginGiveback i cause).bus.mute = l.bus.mute ∧ (l.beginGiveback i cause).free = l.free := by
  unfold Lane.beginGiveback
  dsimp only
  simp [*]

@[simp] theorem Lane.givebackRequest_frame (l : Lane) (h : Sender) :
    (l.givebackRequest h).clock = l.clock ∧ (l.givebackRequest h).sup = l.sup
    ∧ (l.givebackRequest h).settings = l.settings ∧ (l.givebackRequest h).cass = l.cass
    ∧ (l.givebackRequest h).transport = l.transport ∧ (l.givebackRequest h).payout = l.payout
    ∧ (l.givebackRequest h).drawer = l.drawer ∧ (l.givebackRequest h).envelope = l.envelope
    ∧ (l.givebackRequest h).journal.cells = l.journal.cells
    ∧ (l.givebackRequest h).loops = l.loops ∧ (l.givebackRequest h).drivers = l.drivers
    ∧ (l.givebackRequest h).lockdown = l.lockdown ∧ (l.givebackRequest h).ledgers = l.ledgers
    ∧ (l.givebackRequest h).bus.mute = l.bus.mute ∧ (l.givebackRequest h).free = l.free := by
  simp only [Lane.givebackRequest, Lane.attending, Lane.permit]
  repeat' split
  all_goals simp [*]

@[simp] theorem Lane.escrowExpired_frame (l : Lane) :
    l.escrowExpired.clock = l.clock ∧ l.escrowExpired.sup = l.sup
    ∧ l.escrowExpired.settings = l.settings ∧ l.escrowExpired.cass = l.cass
    ∧ l.escrowExpired.transport = l.transport ∧ l.escrowExpired.payout = l.payout
    ∧ l.escrowExpired.drawer = l.drawer ∧ l.escrowExpired.envelope = l.envelope
    ∧ l.escrowExpired.journal.cells = l.journal.cells ∧ l.escrowExpired.loops = l.loops
    ∧ l.escrowExpired.drivers = l.drivers ∧ l.escrowExpired.lockdown = l.lockdown
    ∧ l.escrowExpired.ledgers = l.ledgers ∧ l.escrowExpired.bus.mute = l.bus.mute
    ∧ l.escrowExpired.free = l.free := by
  unfold Lane.escrowExpired
  repeat' split
  all_goals simp [*]

@[simp] theorem Lane.moveNote_frame (l : Lane) :
    l.moveNote.clock = l.clock ∧ l.moveNote.sup = l.sup ∧ l.moveNote.settings = l.settings
    ∧ l.moveNote.cass = l.cass ∧ l.moveNote.payout = l.payout ∧ l.moveNote.envelope = l.envelope
    ∧ l.moveNote.journal = l.journal ∧ l.moveNote.loops = l.loops
    ∧ l.moveNote.lockdown = l.lockdown ∧ l.moveNote.ledgers = l.ledgers ∧ l.moveNote.bus = l.bus
    ∧ l.moveNote.free = l.free := by
  unfold Lane.moveNote
  dsimp only
  repeat' split
  all_goals simp [*]

@[simp] theorem Lane.admitSlot_frame (l : Lane) (h : Sender) :
    (l.admitSlot h).clock = l.clock ∧ (l.admitSlot h).sup = l.sup
    ∧ (l.admitSlot h).settings = l.settings ∧ (l.admitSlot h).cass = l.cass
    ∧ (l.admitSlot h).transport = l.transport ∧ (l.admitSlot h).drawer = l.drawer
    ∧ (l.admitSlot h).intake = l.intake ∧ (l.admitSlot h).journal.cells = l.journal.cells
    ∧ (l.admitSlot h).loops = l.loops ∧ (l.admitSlot h).lockdown = l.lockdown
    ∧ (l.admitSlot h).ledgers = l.ledgers ∧ (l.admitSlot h).bus.mute = l.bus.mute
    ∧ (l.admitSlot h).free = l.free := by
  unfold Lane.admitSlot
  dsimp only
  simp [*]

@[simp] theorem Lane.slotRequest_frame (l : Lane) (h : Sender) :
    (l.slotRequest h).clock = l.clock ∧ (l.slotRequest h).sup = l.sup
    ∧ (l.slotRequest h).settings = l.settings ∧ (l.slotRequest h).cass = l.cass
    ∧ (l.slotRequest h).transport = l.transport ∧ (l.slotRequest h).drawer = l.drawer
    ∧ (l.slotRequest h).intake = l.intake ∧ (l.slotRequest h).journal.cells = l.journal.cells
    ∧ (l.slotRequest h).loops = l.loops ∧ (l.slotRequest h).lockdown = l.lockdown
    ∧ (l.slotRequest h).ledgers = l.ledgers ∧ (l.slotRequest h).bus.mute = l.bus.mute
    ∧ (l.slotRequest h).free = l.free := by
  simp only [Lane.slotRequest, Lane.attending, Lane.permit]
  repeat' split
  all_goals simp [*]

@[simp] theorem Lane.beginCapture_frame (l : Lane) (r : EnvelopeRecord) :
    (l.beginCapture r).clock = l.clock ∧ (l.beginCapture r).sup = l.sup
    ∧ (l.beginCapture r).settings = l.settings ∧ (l.beginCapture r).cass = l.cass
    ∧ (l.beginCapture r).transport = l.transport ∧ (l.beginCapture r).payout = l.payout
    ∧ (l.beginCapture r).drawer = l.drawer ∧ (l.beginCapture r).intake = l.intake
    ∧ (l.beginCapture r).journal = l.journal ∧ (l.beginCapture r).loops = l.loops
    ∧ (l.beginCapture r).lockdown = l.lockdown ∧ (l.beginCapture r).ledgers = l.ledgers
    ∧ (l.beginCapture r).bus = l.bus ∧ (l.beginCapture r).free = l.free := by
  unfold Lane.beginCapture
  dsimp only
  simp [*]

@[simp] theorem Lane.entryFiltered_frame (l : Lane) :
    l.entryFiltered.clock = l.clock ∧ l.entryFiltered.sup = l.sup
    ∧ l.entryFiltered.settings = l.settings ∧ l.entryFiltered.cass = l.cass
    ∧ l.entryFiltered.transport = l.transport ∧ l.entryFiltered.payout = l.payout
    ∧ l.entryFiltered.drawer = l.drawer ∧ l.entryFiltered.intake = l.intake
    ∧ l.entryFiltered.journal = l.journal ∧ l.entryFiltered.loops = l.loops
    ∧ l.entryFiltered.lockdown = l.lockdown ∧ l.entryFiltered.ledgers = l.ledgers
    ∧ l.entryFiltered.bus = l.bus ∧ l.entryFiltered.free = l.free := by
  unfold Lane.entryFiltered
  repeat' split
  all_goals simp [*]

@[simp] theorem Lane.slotExpired_frame (l : Lane) :
    l.slotExpired.clock = l.clock ∧ l.slotExpired.sup = l.sup
    ∧ l.slotExpired.settings = l.settings ∧ l.slotExpired.cass = l.cass
    ∧ l.slotExpired.transport = l.transport ∧ l.slotExpired.payout = l.payout
    ∧ l.slotExpired.drawer = l.drawer ∧ l.slotExpired.intake = l.intake
    ∧ l.slotExpired.journal.cells = l.journal.cells ∧ l.slotExpired.loops = l.loops
    ∧ l.slotExpired.lockdown = l.lockdown ∧ l.slotExpired.ledgers.cash = l.ledgers.cash
    ∧ l.slotExpired.bus.mute = l.bus.mute ∧ l.slotExpired.free = l.free := by
  unfold Lane.slotExpired
  repeat' split
  all_goals simp [*]

@[simp] theorem Lane.endCapture_frame (l : Lane) (r : EnvelopeRecord) (confirmed : Bool) :
    (l.endCapture r confirmed).clock = l.clock ∧ (l.endCapture r confirmed).sup = l.sup
    ∧ (l.endCapture r confirmed).settings = l.settings ∧ (l.endCapture r confirmed).cass = l.cass
    ∧ (l.endCapture r confirmed).transport = l.transport
    ∧ (l.endCapture r confirmed).payout = l.payout ∧ (l.endCapture r confirmed).drawer = l.drawer
    ∧ (l.endCapture r confirmed).intake = l.intake
    ∧ (l.endCapture r confirmed).journal.cells = l.journal.cells
    ∧ (l.endCapture r confirmed).loops = l.loops
    ∧ (l.endCapture r confirmed).lockdown = l.lockdown
    ∧ (l.endCapture r confirmed).ledgers = l.ledgers
    ∧ (l.endCapture r confirmed).bus.mute = l.bus.mute ∧ (l.endCapture r confirmed).free = l.free := by
  unfold Lane.endCapture
  dsimp only
  repeat' split
  all_goals simp [*]

@[simp] theorem Lane.dropEnds_frame (l : Lane) (reported : Bool) :
    (l.dropEnds reported).clock = l.clock ∧ (l.dropEnds reported).sup.service = l.sup.service
    ∧ (l.dropEnds reported).sup.lane = l.sup.lane
    ∧ (l.dropEnds reported).sup.laneCount = l.sup.laneCount
    ∧ (l.dropEnds reported).sup.causes = l.sup.causes
    ∧ (l.dropEnds reported).sup.scanning = l.sup.scanning
    ∧ (l.dropEnds reported).settings = l.settings ∧ (l.dropEnds reported).cass = l.cass
    ∧ (l.dropEnds reported).transport = l.transport ∧ (l.dropEnds reported).payout = l.payout
    ∧ (l.dropEnds reported).drawer = l.drawer ∧ (l.dropEnds reported).intake = l.intake
    ∧ (l.dropEnds reported).journal.cells = l.journal.cells
    ∧ (l.dropEnds reported).loops = l.loops ∧ (l.dropEnds reported).lockdown = l.lockdown
    ∧ (l.dropEnds reported).ledgers.cash = l.ledgers.cash
    ∧ (l.dropEnds reported).bus.mute = l.bus.mute ∧ (l.dropEnds reported).free = l.free := by
  unfold Lane.dropEnds
  repeat' split
  all_goals simp [*]

@[simp] theorem Lane.safeOpenRequest_frame (l : Lane) (h : Sender) :
    (l.safeOpenRequest h).clock = l.clock ∧ (l.safeOpenRequest h).sup = l.sup
    ∧ (l.safeOpenRequest h).settings = l.settings ∧ (l.safeOpenRequest h).cass = l.cass
    ∧ (l.safeOpenRequest h).transport = l.transport ∧ (l.safeOpenRequest h).drawer = l.drawer
    ∧ (l.safeOpenRequest h).intake = l.intake
    ∧ (l.safeOpenRequest h).journal.cells = l.journal.cells
    ∧ (l.safeOpenRequest h).loops = l.loops ∧ (l.safeOpenRequest h).lockdown = l.lockdown
    ∧ (l.safeOpenRequest h).ledgers = l.ledgers ∧ (l.safeOpenRequest h).bus.mute = l.bus.mute
    ∧ (l.safeOpenRequest h).free = l.free := by
  simp only [Lane.safeOpenRequest, Lane.supervised, Lane.permit]
  repeat' split
  all_goals simp [*]

@[simp] theorem Lane.safeCloseRequest_frame (l : Lane) (h : Sender) :
    (l.safeCloseRequest h).clock = l.clock ∧ (l.safeCloseRequest h).sup = l.sup
    ∧ (l.safeCloseRequest h).settings = l.settings ∧ (l.safeCloseRequest h).cass = l.cass
    ∧ (l.safeCloseRequest h).transport = l.transport ∧ (l.safeCloseRequest h).drawer = l.drawer
    ∧ (l.safeCloseRequest h).intake = l.intake
    ∧ (l.safeCloseRequest h).journal.cells = l.journal.cells
    ∧ (l.safeCloseRequest h).loops = l.loops ∧ (l.safeCloseRequest h).lockdown = l.lockdown
    ∧ (l.safeCloseRequest h).ledgers = l.ledgers ∧ (l.safeCloseRequest h).bus.mute = l.bus.mute
    ∧ (l.safeCloseRequest h).free = l.free := by
  simp only [Lane.safeCloseRequest, Lane.supervised, Lane.permit]
  repeat' split
  all_goals simp [*]

@[simp] theorem Lane.journalRequest_frame (l : Lane) (h : Sender) (index : Nat) :
    (l.journalRequest h index).clock = l.clock ∧ (l.journalRequest h index).sup = l.sup
    ∧ (l.journalRequest h index).settings = l.settings ∧ (l.journalRequest h index).cass = l.cass
    ∧ (l.journalRequest h index).transport = l.transport
    ∧ (l.journalRequest h index).payout = l.payout ∧ (l.journalRequest h index).drawer = l.drawer
    ∧ (l.journalRequest h index).intake = l.intake
    ∧ (l.journalRequest h index).envelope = l.envelope
    ∧ (l.journalRequest h index).journal = l.journal ∧ (l.journalRequest h index).loops = l.loops
    ∧ (l.journalRequest h index).drivers = l.drivers
    ∧ (l.journalRequest h index).lockdown = l.lockdown
    ∧ (l.journalRequest h index).ledgers = l.ledgers
    ∧ (l.journalRequest h index).bus.mute = l.bus.mute ∧ (l.journalRequest h index).free = l.free := by
  unfold Lane.journalRequest
  repeat' split
  all_goals simp [*]

@[simp] theorem Lane.stopJournal_frame (l : Lane) (st : JournalState) :
    (l.stopJournal st).clock = l.clock ∧ (l.stopJournal st).sup.service = l.sup.service
    ∧ (l.stopJournal st).sup.lane = l.sup.lane
    ∧ (l.stopJournal st).sup.laneCount = l.sup.laneCount
    ∧ (l.stopJournal st).sup.causes = l.sup.causes
    ∧ (l.stopJournal st).sup.scanning = l.sup.scanning
    ∧ (l.stopJournal st).sup.homing = l.sup.homing ∧ (l.stopJournal st).settings = l.settings
    ∧ (l.stopJournal st).cass = l.cass ∧ (l.stopJournal st).transport = l.transport
    ∧ (l.stopJournal st).payout = l.payout ∧ (l.stopJournal st).drawer = l.drawer
    ∧ (l.stopJournal st).intake = l.intake ∧ (l.stopJournal st).envelope = l.envelope
    ∧ (l.stopJournal st).loops = l.loops ∧ (l.stopJournal st).drivers = l.drivers
    ∧ (l.stopJournal st).lockdown = l.lockdown ∧ (l.stopJournal st).ledgers = l.ledgers
    ∧ (l.stopJournal st).bus.mute = l.bus.mute := by
  unfold Lane.stopJournal
  dsimp only
  repeat' split
  all_goals simp [*]

@[simp] theorem Lane.lineTimeout_frame (l : Lane) :
    l.lineTimeout.clock = l.clock ∧ l.lineTimeout.sup.service = l.sup.service
    ∧ l.lineTimeout.sup.lane = l.sup.lane ∧ l.lineTimeout.sup.laneCount = l.sup.laneCount
    ∧ l.lineTimeout.settings = l.settings ∧ l.lineTimeout.transport = l.transport
    ∧ l.lineTimeout.payout = l.payout ∧ l.lineTimeout.drawer = l.drawer
    ∧ l.lineTimeout.intake = l.intake ∧ l.lineTimeout.loops = l.loops
    ∧ l.lineTimeout.drivers = l.drivers ∧ l.lineTimeout.lockdown = l.lockdown
    ∧ l.lineTimeout.bus.mute = l.bus.mute := by
  unfold Lane.lineTimeout
  repeat' split
  all_goals simp [*]

@[simp] theorem Lane.cartridgeRemoved_frame (l : Lane) :
    l.cartridgeRemoved.clock = l.clock ∧ l.cartridgeRemoved.sup.service = l.sup.service
    ∧ l.cartridgeRemoved.sup.lane = l.sup.lane
    ∧ l.cartridgeRemoved.sup.laneCount = l.sup.laneCount
    ∧ l.cartridgeRemoved.settings = l.settings ∧ l.cartridgeRemoved.transport = l.transport
    ∧ l.cartridgeRemoved.payout = l.payout ∧ l.cartridgeRemoved.drawer = l.drawer
    ∧ l.cartridgeRemoved.intake = l.intake ∧ l.cartridgeRemoved.loops = l.loops
    ∧ l.cartridgeRemoved.drivers = l.drivers ∧ l.cartridgeRemoved.lockdown = l.lockdown
    ∧ l.cartridgeRemoved.bus.mute = l.bus.mute := by
  unfold Lane.cartridgeRemoved
  dsimp only
  repeat' split
  all_goals simp [*]

@[simp] theorem Lane.cartridgeInserted_frame (l : Lane) (cells : Option (List Host.Cell)) :
    (l.cartridgeInserted cells).clock = l.clock ∧ (l.cartridgeInserted cells).sup = l.sup
    ∧ (l.cartridgeInserted cells).settings = l.settings
    ∧ (l.cartridgeInserted cells).cass = l.cass
    ∧ (l.cartridgeInserted cells).transport = l.transport
    ∧ (l.cartridgeInserted cells).payout = l.payout
    ∧ (l.cartridgeInserted cells).drawer = l.drawer
    ∧ (l.cartridgeInserted cells).intake = l.intake
    ∧ (l.cartridgeInserted cells).envelope = l.envelope
    ∧ (l.cartridgeInserted cells).loops = l.loops
    ∧ (l.cartridgeInserted cells).drivers = l.drivers
    ∧ (l.cartridgeInserted cells).lockdown = l.lockdown
    ∧ (l.cartridgeInserted cells).ledgers = l.ledgers ∧ (l.cartridgeInserted cells).bus = l.bus
    ∧ (l.cartridgeInserted cells).free = l.free := by
  unfold Lane.cartridgeInserted
  split <;> repeat' constructor

@[simp] theorem Lane.setupRequest_frame (l : Lane) (h : Sender) (item selector : Byte) (value :
    BitVec 32) :
    (l.setupRequest h item selector value).clock = l.clock
    ∧ (l.setupRequest h item selector value).sup.service = l.sup.service
    ∧ (l.setupRequest h item selector value).sup.lane = l.sup.lane
    ∧ (l.setupRequest h item selector value).sup.laneCount = l.sup.laneCount
    ∧ (l.setupRequest h item selector value).sup.causes = l.sup.causes
    ∧ (l.setupRequest h item selector value).sup.scanning = l.sup.scanning
    ∧ (l.setupRequest h item selector value).sup.homing = l.sup.homing
    ∧ (l.setupRequest h item selector value).settings = l.settings
    ∧ (l.setupRequest h item selector value).cass = l.cass
    ∧ (l.setupRequest h item selector value).transport = l.transport
    ∧ (l.setupRequest h item selector value).payout = l.payout
    ∧ (l.setupRequest h item selector value).drawer = l.drawer
    ∧ (l.setupRequest h item selector value).intake = l.intake
    ∧ (l.setupRequest h item selector value).envelope = l.envelope
    ∧ (l.setupRequest h item selector value).journal = l.journal
    ∧ (l.setupRequest h item selector value).loops = l.loops
    ∧ (l.setupRequest h item selector value).drivers = l.drivers
    ∧ (l.setupRequest h item selector value).lockdown = l.lockdown
    ∧ (l.setupRequest h item selector value).ledgers = l.ledgers
    ∧ (l.setupRequest h item selector value).bus.mute = l.bus.mute
    ∧ (l.setupRequest h item selector value).free = l.free := by
  unfold Lane.setupRequest
  dsimp only
  repeat' split
  all_goals simp [*]

@[simp] theorem Lane.setupDoneRequest_frame (l : Lane) (h : Sender) :
    (l.setupDoneRequest h).clock = l.clock ∧ (l.setupDoneRequest h).sup.lane = l.sup.lane
    ∧ (l.setupDoneRequest h).sup.laneCount = l.sup.laneCount
    ∧ (l.setupDoneRequest h).sup.causes = l.sup.causes
    ∧ (l.setupDoneRequest h).sup.scanning = l.sup.scanning
    ∧ (l.setupDoneRequest h).sup.homing = l.sup.homing
    ∧ (l.setupDoneRequest h).transport = l.transport ∧ (l.setupDoneRequest h).payout = l.payout
    ∧ (l.setupDoneRequest h).drawer = l.drawer ∧ (l.setupDoneRequest h).intake = l.intake
    ∧ (l.setupDoneRequest h).envelope = l.envelope ∧ (l.setupDoneRequest h).journal = l.journal
    ∧ (l.setupDoneRequest h).lockdown = l.lockdown
    ∧ (l.setupDoneRequest h).ledgers.cash = l.ledgers.cash
    ∧ (l.setupDoneRequest h).bus.mute = l.bus.mute ∧ (l.setupDoneRequest h).free = l.free := by
  unfold Lane.setupDoneRequest
  dsimp only
  repeat' split
  all_goals simp [*]

@[simp] theorem Lane.openRequest_frame (l : Lane) (h : Sender) :
    (l.openRequest h).clock = l.clock ∧ (l.openRequest h).sup.lane = l.sup.lane
    ∧ (l.openRequest h).sup.laneCount = l.sup.laneCount
    ∧ (l.openRequest h).sup.causes = l.sup.causes
    ∧ (l.openRequest h).sup.scanning = l.sup.scanning
    ∧ (l.openRequest h).sup.homing = l.sup.homing ∧ (l.openRequest h).settings = l.settings
    ∧ (l.openRequest h).cass = l.cass ∧ (l.openRequest h).transport = l.transport
    ∧ (l.openRequest h).payout = l.payout ∧ (l.openRequest h).drawer = l.drawer
    ∧ (l.openRequest h).intake = l.intake ∧ (l.openRequest h).envelope = l.envelope
    ∧ (l.openRequest h).journal = l.journal ∧ (l.openRequest h).loops = l.loops
    ∧ (l.openRequest h).lockdown = l.lockdown ∧ (l.openRequest h).ledgers.cash = l.ledgers.cash
    ∧ (l.openRequest h).bus.mute = l.bus.mute ∧ (l.openRequest h).free = l.free := by
  simp only [Lane.openRequest, Lane.supervised, Lane.permit]
  repeat' split
  all_goals simp [*]

@[simp] theorem Lane.closeRequest_frame (l : Lane) (h : Sender) :
    (l.closeRequest h).clock = l.clock ∧ (l.closeRequest h).sup.lane = l.sup.lane
    ∧ (l.closeRequest h).sup.laneCount = l.sup.laneCount
    ∧ (l.closeRequest h).sup.causes = l.sup.causes
    ∧ (l.closeRequest h).sup.scanning = l.sup.scanning
    ∧ (l.closeRequest h).sup.homing = l.sup.homing ∧ (l.closeRequest h).settings = l.settings
    ∧ (l.closeRequest h).cass = l.cass ∧ (l.closeRequest h).transport = l.transport
    ∧ (l.closeRequest h).drawer = l.drawer ∧ (l.closeRequest h).intake = l.intake
    ∧ (l.closeRequest h).journal.cells = l.journal.cells ∧ (l.closeRequest h).loops = l.loops
    ∧ (l.closeRequest h).lockdown = l.lockdown ∧ (l.closeRequest h).ledgers.cash = l.ledgers.cash
    ∧ (l.closeRequest h).bus.mute = l.bus.mute ∧ (l.closeRequest h).free = l.free := by
  simp only [Lane.closeRequest, Lane.supervised, Lane.permit]
  repeat' split
  all_goals simp [*]

@[simp] theorem Lane.noneRequest_frame (l : Lane) (h : Sender) :
    (l.noneRequest h).clock = l.clock ∧ (l.noneRequest h).sup = l.sup
    ∧ (l.noneRequest h).settings = l.settings ∧ (l.noneRequest h).cass = l.cass
    ∧ (l.noneRequest h).transport = l.transport ∧ (l.noneRequest h).payout = l.payout
    ∧ (l.noneRequest h).drawer = l.drawer ∧ (l.noneRequest h).intake = l.intake
    ∧ (l.noneRequest h).envelope = l.envelope ∧ (l.noneRequest h).journal = l.journal
    ∧ (l.noneRequest h).loops = l.loops ∧ (l.noneRequest h).drivers = l.drivers
    ∧ (l.noneRequest h).lockdown = l.lockdown ∧ (l.noneRequest h).ledgers = l.ledgers
    ∧ (l.noneRequest h).bus.mute = l.bus.mute ∧ (l.noneRequest h).free = l.free := by
  simp only [Lane.noneRequest, Lane.supervised, Lane.permit]
  repeat' split
  all_goals simp [*]

@[simp] theorem Lane.clearDrawer_frame (l : Lane) (h : Sender) :
    (l.clearDrawer h).clock = l.clock ∧ (l.clearDrawer h).sup.service = l.sup.service
    ∧ (l.clearDrawer h).sup.lane = l.sup.lane ∧ (l.clearDrawer h).sup.laneCount = l.sup.laneCount
    ∧ (l.clearDrawer h).sup.scanning = l.sup.scanning
    ∧ (l.clearDrawer h).sup.homing = l.sup.homing ∧ (l.clearDrawer h).settings = l.settings
    ∧ (l.clearDrawer h).cass = l.cass ∧ (l.clearDrawer h).envelope = l.envelope
    ∧ (l.clearDrawer h).journal.cells = l.journal.cells ∧ (l.clearDrawer h).loops = l.loops
    ∧ (l.clearDrawer h).lockdown = l.lockdown ∧ (l.clearDrawer h).bus.mute = l.bus.mute
    ∧ (l.clearDrawer h).free = l.free := by
  unfold Lane.clearDrawer
  dsimp only
  repeat' split
  all_goals simp [*]

@[simp] theorem Lane.clearDrawerRequest_frame (l : Lane) (h : Sender) (action : LaneAction) :
    (l.clearDrawerRequest h action).clock = l.clock
    ∧ (l.clearDrawerRequest h action).sup.lane = l.sup.lane
    ∧ (l.clearDrawerRequest h action).sup.laneCount = l.sup.laneCount
    ∧ (l.clearDrawerRequest h action).sup.scanning = l.sup.scanning
    ∧ (l.clearDrawerRequest h action).sup.homing = l.sup.homing
    ∧ (l.clearDrawerRequest h action).settings = l.settings
    ∧ (l.clearDrawerRequest h action).cass = l.cass
    ∧ (l.clearDrawerRequest h action).journal.cells = l.journal.cells
    ∧ (l.clearDrawerRequest h action).loops = l.loops
    ∧ (l.clearDrawerRequest h action).lockdown = l.lockdown
    ∧ (l.clearDrawerRequest h action).bus.mute = l.bus.mute
    ∧ (l.clearDrawerRequest h action).free = l.free := by
  simp only [Lane.clearDrawerRequest, Lane.supervised, Lane.permit]
  repeat' split
  all_goals simp [*]

@[simp] theorem Lane.testRequest_frame (l : Lane) (h : Sender) :
    (l.testRequest h).clock = l.clock ∧ (l.testRequest h).sup.service = l.sup.service
    ∧ (l.testRequest h).sup.lane = l.sup.lane ∧ (l.testRequest h).sup.laneCount = l.sup.laneCount
    ∧ (l.testRequest h).sup.causes = l.sup.causes
    ∧ (l.testRequest h).sup.scanning = l.sup.scanning
    ∧ (l.testRequest h).sup.homing = l.sup.homing ∧ (l.testRequest h).settings = l.settings
    ∧ (l.testRequest h).cass = l.cass ∧ (l.testRequest h).transport = l.transport
    ∧ (l.testRequest h).payout = l.payout ∧ (l.testRequest h).drawer = l.drawer
    ∧ (l.testRequest h).intake = l.intake ∧ (l.testRequest h).envelope = l.envelope
    ∧ (l.testRequest h).journal = l.journal ∧ (l.testRequest h).loops = l.loops
    ∧ (l.testRequest h).drivers = l.drivers ∧ (l.testRequest h).lockdown = l.lockdown
    ∧ (l.testRequest h).ledgers = l.ledgers ∧ (l.testRequest h).bus.mute = l.bus.mute
    ∧ (l.testRequest h).free = l.free := by
  simp only [Lane.testRequest, Lane.supervised, Lane.permit]
  repeat' split
  all_goals simp [*]

@[simp] theorem Lane.rollcallRequest_frame (l : Lane) (h : Sender) (conditions : BitVec 16) :
    (l.rollcallRequest h conditions).clock = l.clock
    ∧ (l.rollcallRequest h conditions).sup.service = l.sup.service
    ∧ (l.rollcallRequest h conditions).sup.lane = l.sup.lane
    ∧ (l.rollcallRequest h conditions).sup.laneCount = l.sup.laneCount
    ∧ (l.rollcallRequest h conditions).sup.causes = l.sup.causes
    ∧ (l.rollcallRequest h conditions).sup.scanning = l.sup.scanning
    ∧ (l.rollcallRequest h conditions).sup.homing = l.sup.homing
    ∧ (l.rollcallRequest h conditions).settings = l.settings
    ∧ (l.rollcallRequest h conditions).cass = l.cass
    ∧ (l.rollcallRequest h conditions).transport = l.transport
    ∧ (l.rollcallRequest h conditions).payout = l.payout
    ∧ (l.rollcallRequest h conditions).drawer = l.drawer
    ∧ (l.rollcallRequest h conditions).intake = l.intake
    ∧ (l.rollcallRequest h conditions).envelope = l.envelope
    ∧ (l.rollcallRequest h conditions).journal = l.journal
    ∧ (l.rollcallRequest h conditions).loops = l.loops
    ∧ (l.rollcallRequest h conditions).drivers = l.drivers
    ∧ (l.rollcallRequest h conditions).lockdown = l.lockdown
    ∧ (l.rollcallRequest h conditions).ledgers = l.ledgers
    ∧ (l.rollcallRequest h conditions).bus.mute = l.bus.mute
    ∧ (l.rollcallRequest h conditions).free = l.free := by
  unfold Lane.rollcallRequest
  repeat' split
  all_goals simp [*]

@[simp] theorem Lane.malformedFrame_frame (l : Lane) (f : WireFrame) (answered : Bool) :
    (l.malformedFrame f answered).clock = l.clock ∧ (l.malformedFrame f answered).sup = l.sup
    ∧ (l.malformedFrame f answered).settings = l.settings
    ∧ (l.malformedFrame f answered).cass = l.cass
    ∧ (l.malformedFrame f answered).transport = l.transport
    ∧ (l.malformedFrame f answered).payout = l.payout
    ∧ (l.malformedFrame f answered).drawer = l.drawer
    ∧ (l.malformedFrame f answered).intake = l.intake
    ∧ (l.malformedFrame f answered).envelope = l.envelope
    ∧ (l.malformedFrame f answered).journal = l.journal
    ∧ (l.malformedFrame f answered).loops = l.loops
    ∧ (l.malformedFrame f answered).drivers = l.drivers
    ∧ (l.malformedFrame f answered).lockdown = l.lockdown
    ∧ (l.malformedFrame f answered).ledgers = l.ledgers
    ∧ (l.malformedFrame f answered).bus.mute = l.bus.mute
    ∧ (l.malformedFrame f answered).free = l.free := by
  unfold Lane.malformedFrame
  repeat' split
  all_goals simp [*]

@[simp] theorem Lane.muteEnds_frame (l : Lane) :
    l.muteEnds.clock = l.clock ∧ l.muteEnds.sup = l.sup ∧ l.muteEnds.settings = l.settings
    ∧ l.muteEnds.cass = l.cass ∧ l.muteEnds.transport = l.transport ∧ l.muteEnds.payout = l.payout
    ∧ l.muteEnds.drawer = l.drawer ∧ l.muteEnds.intake = l.intake
    ∧ l.muteEnds.envelope = l.envelope ∧ l.muteEnds.journal = l.journal
    ∧ l.muteEnds.loops = l.loops ∧ l.muteEnds.drivers = l.drivers
    ∧ l.muteEnds.lockdown = l.lockdown ∧ l.muteEnds.ledgers = l.ledgers ∧ l.muteEnds.free = l.free := by
  unfold Lane.muteEnds
  dsimp only
  repeat' split
  all_goals simp [*]

@[simp] theorem Lane.announceExpired_frame (l : Lane) :
    l.announceExpired.clock = l.clock ∧ l.announceExpired.sup = l.sup
    ∧ l.announceExpired.settings = l.settings ∧ l.announceExpired.cass = l.cass
    ∧ l.announceExpired.transport = l.transport ∧ l.announceExpired.payout = l.payout
    ∧ l.announceExpired.drawer = l.drawer ∧ l.announceExpired.intake = l.intake
    ∧ l.announceExpired.envelope = l.envelope ∧ l.announceExpired.journal = l.journal
    ∧ l.announceExpired.loops = l.loops ∧ l.announceExpired.drivers = l.drivers
    ∧ l.announceExpired.lockdown = l.lockdown ∧ l.announceExpired.ledgers.cash = l.ledgers.cash
    ∧ l.announceExpired.bus.mute = l.bus.mute ∧ l.announceExpired.free = l.free := by
  unfold Lane.announceExpired
  repeat' split
  all_goals simp [*]

@[simp] theorem Lane.idle_frame (l : Lane) :
    l.idle.sup.service = l.sup.service ∧ l.idle.sup.lane = l.sup.lane
    ∧ l.idle.sup.laneCount = l.sup.laneCount ∧ l.idle.sup.scanning = l.sup.scanning
    ∧ l.idle.settings = l.settings ∧ l.idle.cass = l.cass ∧ l.idle.journal.cells = l.journal.cells
    ∧ l.idle.loops = l.loops ∧ l.idle.lockdown = l.lockdown ∧ l.idle.bus.mute = l.bus.mute
    ∧ l.idle.free = l.free := by
  unfold Lane.idle Lane.homingGoesOn
  by_cases hm : l.homesIn .module = true <;> by_cases he : l.homesIn .escrow = true <;> simp [hm, he]

end Sys2Proof.Machine
end

