-- ==== Sys2Proof/Laws/Transmit.lean ====
section
/-! SUPPORT. Transmit: what the transmit queue does with a frame that joins it, the frames each sending
operation queues, the reservations of the journal, and how a request reaches its owning tests. -/

namespace Sys2Proof.Machine

/-! ### Lengths of the queue -/

@[simp] theorem txInsert_length (f : TxFrame) (q : List TxFrame) :
    (txInsert f q).length = q.length + 1 := by
  induction q with
  | nil => rfl
  | cons g rest ih => simp only [txInsert]; split <;> simp [ih]

theorem txRemoveNewest_length_le (p : TxFrame → Bool) (q : List TxFrame) :
    (txRemoveNewest p q).length ≤ q.length := by
  simpa [txRemoveNewest] using (q.reverse.eraseP_sublist (p := p)).length_le

theorem txRemoveNewest_length (p : TxFrame → Bool) (q : List TxFrame) (h : q.any p = true) :
    (txRemoveNewest p q).length + 1 = q.length := by
  obtain ⟨x, hx, px⟩ := List.any_eq_true.mp h
  have e := List.length_eraseP_of_mem (l := q.reverse) (List.mem_reverse.mpr hx) px
  have n : 0 < q.length := List.length_pos_of_mem hx
  simp [txRemoveNewest, e]
  omega

/-- A frame that joins makes the queue at most one frame longer. -/
theorem txJoin_length_le (q : List TxFrame) (f : TxFrame) : (txJoin q f).1.length ≤ q.length + 1 := by
  unfold txJoin
  split
  · unfold txJoinHigh
    have a := txRemoveNewest_length_le TxFrame.idleStatus q
    have b := txRemoveNewest_length_le TxFrame.idleClass2 q
    repeat' split
    all_goals simp
    all_goals omega
  · split
    · unfold txJoinMiddle
      have a := txRemoveNewest_length_le TxFrame.idleStatus q
      repeat' split
      all_goals simp
      all_goals omega
    · unfold txJoinStatus
      repeat' split
      all_goals simp

/-- A queue with room drops no frame on arrival. -/
theorem txJoin_kept (q : List TxFrame) (f : TxFrame) (h : q.length < Config.txLimit) :
    (txJoin q f).2 = false := by
  unfold txJoin
  split
  · simp [txJoinHigh, h]
  · split <;> rfl

theorem queued_append (q : List TxFrame) (a b : List Outgoing) : queued q (a ++ b) = queued (queued q a) b := by
  induction a generalizing q with
  | nil => rfl
  | cons o rest ih => exact ih _

theorem queued_length_le (q : List TxFrame) (out : List Outgoing) :
    (queued q out).length ≤ q.length + out.length := by
  induction out generalizing q with
  | nil => simp [queued]
  | cons o rest ih =>
    have a := ih (txJoin q (TxFrame.fresh o.body o.dest o.tag)).1
    have b := txJoin_length_le q (TxFrame.fresh o.body o.dest o.tag)
    simp only [queued, List.length_cons]
    omega

theorem Lane.toBoth_length_le (l : Lane) (n : Notice) : (l.toBoth n).length ≤ 2 := by
  have h : ∀ c t, (toConsole c t n).length ≤ 1 := by intro c t; cases c <;> simp [toConsole]
  unfold Lane.toBoth
  split
  · exact Nat.le_trans (h _ _) (by omega)
  · have a := h l.settings.attending 0
    have b := h l.settings.supervisor 0
    simp only [List.length_append]
    omega

theorem Lane.journalNews_length_le (l : Lane) (j : Journal) : (l.journalNews j).length ≤ 2 := by
  unfold Lane.journalNews
  split
  · simp
  · split
    · simp
    · exact l.toBoth_length_le _

/-! ### What each sending operation queues -/

/-- The lane with frames queued: every field but the transmit queue is as it was. -/
@[simp] theorem Lane.sending_frame (l : Lane) (out : List Outgoing) :
    (l.sending out).clock = l.clock ∧ (l.sending out).sup = l.sup ∧ (l.sending out).settings = l.settings
    ∧ (l.sending out).cass = l.cass ∧ (l.sending out).transport = l.transport
    ∧ (l.sending out).payout = l.payout ∧ (l.sending out).drawer = l.drawer
    ∧ (l.sending out).intake = l.intake ∧ (l.sending out).envelope = l.envelope
    ∧ (l.sending out).journal = l.journal ∧ (l.sending out).loops = l.loops
    ∧ (l.sending out).drivers = l.drivers ∧ (l.sending out).lockdown = l.lockdown
    ∧ (l.sending out).ledgers = l.ledgers ∧ (l.sending out).bus.mute = l.bus.mute
    ∧ (l.sending out).bus.drops = l.bus.drops ∧ (l.sending out).bus.breakTimer = l.bus.breakTimer
    ∧ (l.sending out).bus.queue = queued l.bus.queue out ∧ (l.sending out).free = l.free :=
  ⟨rfl, rfl, rfl, rfl, rfl, rfl, rfl, rfl, rfl, rfl, rfl, rfl, rfl, rfl, rfl, rfl, rfl, rfl, rfl⟩

@[simp] theorem Lane.sending_nil (l : Lane) : l.sending [] = l := rfl

theorem Lane.sending_sending (l : Lane) (a b : List Outgoing) :
    (l.sending a).sending b = l.sending (a ++ b) := by
  simp [Lane.sending, queued_append]

theorem Lane.send_eq (l : Lane) (body : TxBody) (dest : Station) (tag : Tag) :
    l.send body dest tag = l.sending [⟨body, dest, tag⟩] := rfl

theorem Lane.reply_eq (l : Lane) (h : Sender) (kind : Fin 32) (code : ReplyCode) (body : ReplyBody) :
    l.reply h kind code body = l.sending [replyTo h kind code body] := rfl

theorem Lane.noticeTo_eq (l : Lane) (console : Option Station) (tag : Tag) (n : Notice) :
    l.noticeTo console tag n = l.sending (toConsole console tag n) := by cases console <;> rfl

theorem Lane.noticeSupervisor_eq (l : Lane) (tag : Tag) (n : Notice) :
    l.noticeSupervisor tag n = l.sending (toConsole l.settings.supervisor tag n) := l.noticeTo_eq _ _ _

theorem Lane.noticeBoth_eq (l : Lane) (n : Notice) : l.noticeBoth n = l.sending (l.toBoth n) := by
  unfold Lane.noticeBoth Lane.toBoth
  split
  · exact l.noticeTo_eq _ _ _
  · rw [Lane.noticeTo_eq, Lane.noticeTo_eq, Lane.sending_sending]

theorem Lane.sendRelease_eq (l : Lane) (q : Quantity) (amount : Nat) (tag : Tag) :
    l.sendRelease q amount tag = l.sending [toEvery (.release q amount) tag] := rfl

theorem Lane.queueStatus_eq (l : Lane) :
    l.queueStatus =
      if l.sup.service.announces = true then
        { l.sending l.statusOut with
          ledgers := { l.ledgers with announce := some (l.clock + l.settings.announce * 1000) } }
      else l := by
  unfold Lane.queueStatus Lane.statusOut
  split <;> rfl

/-- A frame queued with room behind is not dropped on arrival, so its owner hears nothing. -/
theorem Lane.sendOwned_eq (l : Lane) (body : TxBody) (tag : Tag)
    (h : l.bus.queue.length < Config.txLimit) :
    l.sendOwned body tag = l.sending [toEvery body tag] := by
  have k := txJoin_kept l.bus.queue (TxFrame.fresh body everyStation tag) h
  simp [Lane.sendOwned, Lane.send?, k, Lane.sending, queued, toEvery, Lane.withTx]

/-! ### Reservations (R122, R123) -/

theorem Lane.enterJournal_eq (l : Lane) (st : JournalState) :
    l.enterJournal st =
      ({ l with journal := { l.journal with state := st } } : Lane).sending
        (l.journalNews { l.journal with state := st }) := by
  unfold Lane.enterJournal Lane.journalNews
  split
  · next h => subst h; simp
  · dsimp only
    cases hst : st.event with
    | none => simp
    | some e => simp only; rw [Lane.noticeBoth_eq]; rfl

/-- The journal settled with its reserved slots replaced. -/
theorem Lane.settleJournal_eq (l : Lane) (n : Nat) :
    ({ l with journal := { l.journal with reserved := n } } : Lane).settleJournal = l.reserving n := by
  by_cases h : l.journal.state.works = true
  · simp only [Lane.settleJournal, h, if_true, Lane.enterJournal_eq, Lane.reserving, Journal.withReserved]
    rfl
  · simp [Lane.settleJournal, h, Lane.reserving, Journal.withReserved, Lane.journalNews]

theorem Lane.reserve_eq (l : Lane) (n : Nat) : l.reserve n = l.reserving (l.journal.reserved + n) :=
  l.settleJournal_eq _

theorem Lane.giveBack_eq (l : Lane) (n : Nat) : l.giveBack n = l.returning n := by
  unfold Lane.giveBack Lane.returning
  split
  · rfl
  · exact l.settleJournal_eq _

/-- What a changed reservation leaves as it was. -/
@[simp] theorem Lane.reserving_frame (l : Lane) (n : Nat) :
    (l.reserving n).clock = l.clock ∧ (l.reserving n).sup = l.sup ∧ (l.reserving n).settings = l.settings
    ∧ (l.reserving n).cass = l.cass ∧ (l.reserving n).transport = l.transport
    ∧ (l.reserving n).payout = l.payout ∧ (l.reserving n).drawer = l.drawer
    ∧ (l.reserving n).intake = l.intake ∧ (l.reserving n).envelope = l.envelope
    ∧ (l.reserving n).loops = l.loops ∧ (l.reserving n).drivers = l.drivers
    ∧ (l.reserving n).lockdown = l.lockdown ∧ (l.reserving n).ledgers = l.ledgers
    ∧ (l.reserving n).free = l.free ∧ (l.reserving n).journal = l.journal.withReserved n :=
  ⟨rfl, rfl, rfl, rfl, rfl, rfl, rfl, rfl, rfl, rfl, rfl, rfl, rfl, rfl, rfl⟩

theorem Lane.reserving_queue_length_le (l : Lane) (n : Nat) :
    (l.reserving n).bus.queue.length ≤ l.bus.queue.length + 2 := by
  have a := queued_length_le l.bus.queue (l.journalNews (l.journal.withReserved n))
  have b := l.journalNews_length_le (l.journal.withReserved n)
  have c : (l.reserving n).bus.queue = queued l.bus.queue (l.journalNews (l.journal.withReserved n)) := rfl
  rw [c]
  omega

/-! ### Requests (R184) -/

theorem Lane.take_of_takes (l : Lane) (h : Sender) (f : Lane → Lane) (t : l.takes h = true) :
    l.take h f = f l := by
  simp only [Lane.takes, Bool.and_eq_true, bne_iff_ne, ne_eq, decide_eq_true_eq] at t
  simp [Lane.take, t.1.1, Nat.not_le.mpr t.1.2, t.2]

theorem Lane.take_of_not_takes (l : Lane) (h : Sender) (f : Lane → Lane) (t : l.takes h = false) :
    l.take h f = l := by
  unfold Lane.take
  split
  · rfl
  · split
    · rfl
    · split
      · simp_all [Lane.takes]
      · rfl

theorem Lane.permit_of_named (l : Lane) (h : Sender) (kind : Fin 32) (console : Option Station)
    (f : Lane → Lane) (t : console = some h.source) : l.permit h kind console f = f l := by
  simp [Lane.permit, t]

/-- A request of the attending console reaches its owning tests. -/
theorem Lane.attending_eq (l : Lane) (h : Sender) (kind : Fin 32) (f : Lane → Lane)
    (t : l.fromAttending h = true) : l.take h (fun l => l.attending h kind f) = f l := by
  simp only [Lane.fromAttending, Bool.and_eq_true, beq_iff_eq] at t
  rw [Lane.take_of_takes l h _ t.1]
  exact l.permit_of_named h kind _ f t.2

/-- A request of the supervisor console reaches its owning tests. -/
theorem Lane.supervised_eq (l : Lane) (h : Sender) (kind : Fin 32) (f : Lane → Lane)
    (t : l.fromSupervisor h = true) : l.take h (fun l => l.supervised h kind f) = f l := by
  simp only [Lane.fromSupervisor, Bool.and_eq_true, beq_iff_eq] at t
  rw [Lane.take_of_takes l h _ t.1]
  exact l.permit_of_named h kind _ f t.2

end Sys2Proof.Machine
end

