-- ==== Sys2Proof/Laws/Course.lean ====
section
/-! SUPPORT. Course: what the operations of a payout's course do, in the terms of Safety.lean (R2, R12, R30, R39,
R40, R43, R45, R46, R56). -/

namespace Sys2Proof.Machine

/-- A lane without a run that ends at once is as it was (R59). -/
theorem Lane.settleRun_of_settled (l : Lane) (h : l.settled = true) : l.settleRun = l := by
  unfold Lane.settled at h; unfold Lane.settleRun
  split at h
  · simp [*]
  · simp_all

/-- An entry of the cassette table changes, with its notice where its state does (R12). -/
theorem Lane.setCassette_eq (l : Lane) (i c) :
    l.setCassette i c = ({ l with cass := { l.cass with entry := l.cass.entry.set i c } } : Lane).sending
      (if c.state = (l.cass.entry.get i).state then []
       else l.toBoth (.cassetteChange (some i) (.inl c.state) c.cause c.count)) := by
  unfold Lane.setCassette
  dsimp only
  split
  · rfl
  · rw [Lane.noticeBoth_eq]; rfl

/-- The bin changes, with its notice where its state does (R7, R12). -/
theorem Lane.setBin_eq (l : Lane) (b) :
    l.setBin b = ({ l with cass := { l.cass with bin := b } } : Lane).sending
      (if b.state = l.cass.bin.state then []
       else l.toBoth (.cassetteChange none (.inr b.state) none b.count)) := by
  unfold Lane.setBin
  dsimp only
  split
  · rfl
  · rw [Lane.noticeBoth_eq]; rfl

/-- A payout past its claim that ends with a record is over (R45, R46, R48, R50, R56). -/
theorem Lane.endPayout_eq (l : Lane) (p : Payout) (r n) : l.endPayout p (some r) n = l.payoutOver p r n := by
  have key : ∀ x : Lane, x.drawer = l.drawer → x.releaseDrawer .payout = { x with drawer :=
      match l.drawer.owner with
      | some o => if o.kind = .payout then { l.drawer with owner := none, receiving := false } else l.drawer
      | none => l.drawer } := by
    intro x hx
    unfold Lane.releaseDrawer
    rw [hx]
    rcases l.drawer.owner with _ | o
    · dsimp only; rw [← hx]
    · dsimp only
      by_cases ho : o.kind = .payout
      · simp [ho]
      · simp only [ho, beq_iff_eq, if_false]; rw [← hx]
  unfold Lane.endPayout Lane.payoutOver
  simp only [Lane.sendRelease_eq, Lane.noticeTo_eq, Lane.giveBack_eq, toConsole]
  have hd : ∀ (x : Lane) n, (x.returning n).drawer = x.drawer := by
    intro x n; unfold Lane.returning; split <;> simp
  rw [key]
  · rfl
  · rw [hd]; rfl

/-- A new count is the count that R2 states with. -/
theorem Cassette.recount_eq (c : Cassette) (n : Nat) : c.recount n = c.withCount n := by
  unfold Cassette.recount Cassette.withCount Cassette.derive CassState.derived
  rcases c with ⟨mode, d, n', v, cap, lo, st, br, cause, lr⟩
  cases st <;> cases mode <;> simp

/-- The quotas of a payout in PICKING are met: the amount is stacked where picks are halted, and the pick list is empty
otherwise (R40, R43). -/
def Lane.quotasMet (l : Lane) (p : Payout) : Prop :=
  if l.transport.halted = true then p.stackedValue = p.amount else l.transport.pickList = []

/-- With notes in the path, or quotas unmet, the payout goes on, asking for a remix where it has to (R40, R43). -/
theorem Lane.drained_eq (l : Lane) (p : Payout) (hp : l.payout = some p)
    (h : l.transport.path ≠ [] ∨ (p.state = .picking ∧ ¬l.quotasMet p)) : l.drained p = l.remixAsked := by
  have e : ({l with payout := some p} : Lane) = l := by rw [← hp]
  unfold Lane.drained Lane.remixAsked Lane.quotasMet at *
  rw [hp, e]
  simp only
  by_cases hpath : l.transport.path = []
  · simp only [hpath, ne_eq, not_true, false_or] at h
    obtain ⟨hs, hm⟩ := h
    simp only [hpath, hs, List.isEmpty_nil, Bool.not_true, Bool.false_eq_true, if_false, beq_self_eq_true,
      if_true]
    rw [if_neg (by decide)]
    by_cases hh : l.transport.halted = true
    · simp only [hh, if_true] at hm ⊢
      simp only [hm, if_false]
      rcases hr : l.transport.remix with _ | r
      · simp [hm, ← hp]
        rfl
      · simp
    · rw [if_neg hh] at hm
      simp [hh, hm]
  · simp [hpath]

/-- A lost position, with the model's name of one. -/
theorem Lane.positionLost_def (l : Lane) :
    l.positionLost = match l.payout, l.transport.pickList.find? l.lostEntry with
  | some p, some e =>
    if p.state = .picking ∧ l.transport.halted = false then
      ({ l with transport := { l.transport with halted := true, lost := some e.position } } : Lane).remixAsked
    else l
  | _, _ => l := rfl

/-- With notes in the path, or short of its amount, a payout that loses a position goes on (R40, R43). -/
theorem Lane.checkLost_eq (l : Lane)
    (h : ∀ p, l.payout = some p → l.transport.path ≠ [] ∨ p.stackedValue ≠ p.amount) :
    l.checkLost = l.positionLost := by
  rw [Lane.positionLost_def]
  unfold Lane.checkLost
  rcases hp : l.payout with _ | p
  · rfl
  · rcases hl : l.transport.pickList.find? l.lostEntry with _ | e
    · simp
    · by_cases hs : p.state = .picking
      · by_cases hh : l.transport.halted = false
        · simp only [hs, hh, beq_self_eq_true, Bool.not_false, Bool.and_true, if_true, and_self]
          refine Eq.trans (Lane.drained_eq
            ({ l with transport := { l.transport with halted := true, lost := some e.position } } : Lane)
            p hp ?_) ?_
          · rcases h p hp with h | h
            · exact .inl h
            · exact .inr ⟨hs, by simp [Lane.quotasMet, h]⟩
          · simp [hp]
        · simp [hh]
      · simp [hs]

/-- Asking for a remix leaves the halt of the picks. -/
theorem Lane.remixAsked_halted (l : Lane) : l.remixAsked.transport.halted = l.transport.halted := by
  unfold Lane.remixAsked; repeat' split
  all_goals rfl

/-- Picks are halted where they were, and where a position of the list is lost (R43). -/
theorem Lane.positionLost_halted (l : Lane) (p : Payout) (hp : l.payout = some p)
    (hs : p.state = .picking) :
    l.positionLost.transport.halted = (l.transport.halted || l.transport.pickList.any l.lostEntry) := by
  rw [Lane.positionLost_def, hp]
  by_cases hh : l.transport.halted = true
  · split <;> simp [hh]
  · have hh : l.transport.halted = false := by simpa using hh
    cases hx : l.transport.pickList.find? l.lostEntry with
    | none =>
      have : l.transport.pickList.any l.lostEntry = false := by
        rw [List.any_eq_false]
        simpa using hx
      simp [hh, this]
    | some e =>
      have : l.transport.pickList.any l.lostEntry = true :=
        List.any_eq_true.mpr ⟨e, List.mem_of_find?_eq_some hx, List.find?_some hx⟩
      simp [hh, this, hs, Lane.remixAsked_halted]

/-- With a note in the path a lost position asks for no remix (R43). -/
theorem Lane.positionLost_remix (l : Lane) (h : l.transport.path ≠ []) :
    l.positionLost.transport.remix = l.transport.remix := by
  have : ∀ x : Lane, x.transport.path ≠ [] → x.remixAsked.transport.remix = x.transport.remix := by
    intro x hx; unfold Lane.remixAsked; repeat' split
    all_goals simp_all
  rw [Lane.positionLost_def]
  repeat' split
  all_goals try rfl
  exact this _ h

/-- A lost position leaves the payout's record. -/
theorem Lane.positionLost_payout (l : Lane) : l.positionLost.payout = l.payout := by
  rw [Lane.positionLost_def]; split <;> try rfl
  split <;> try rfl
  unfold Lane.remixAsked; dsimp only; split <;> try rfl
  split <;> rfl

/-- What a lost position, and the remix asked for it, leave as it was. -/
theorem Lane.positionLost_frame (l : Lane) :
    l.positionLost.drawer = l.drawer ∧ l.positionLost.remixAsked.drawer = l.drawer
    ∧ l.positionLost.sup = l.sup ∧ l.positionLost.remixAsked.sup = l.sup
    ∧ l.positionLost.transport.path = l.transport.path
    ∧ l.positionLost.transport.stacker = l.transport.stacker
    ∧ l.positionLost.transport.pickList = l.transport.pickList
    ∧ l.positionLost.lockdown = l.lockdown ∧ l.positionLost.drivers = l.drivers
    ∧ l.positionLost.cass = l.cass := by
  have h : ∀ x : Lane, x.remixAsked.drawer = x.drawer ∧ x.remixAsked.sup = x.sup
      ∧ x.remixAsked.transport.path = x.transport.path
      ∧ x.remixAsked.transport.stacker = x.transport.stacker
      ∧ x.remixAsked.transport.pickList = x.transport.pickList
      ∧ x.remixAsked.lockdown = x.lockdown ∧ x.remixAsked.drivers = x.drivers
      ∧ x.remixAsked.cass = x.cass := by
    intro x; unfold Lane.remixAsked; split <;> try simp
    split <;> simp
  have h2 : l.positionLost.drawer = l.drawer ∧ l.positionLost.sup = l.sup
      ∧ l.positionLost.transport.path = l.transport.path
      ∧ l.positionLost.transport.stacker = l.transport.stacker
      ∧ l.positionLost.transport.pickList = l.transport.pickList
      ∧ l.positionLost.lockdown = l.lockdown ∧ l.positionLost.drivers = l.drivers
      ∧ l.positionLost.cass = l.cass := by
    rw [Lane.positionLost_def]; split <;> try simp
    split <;> simp [h]
  simp [h, h2]

/-- After a result: with notes in the path, or quotas unmet, a lost position halts the picks and the payout goes on
(R40, R43). -/
theorem Lane.progress_eq (l : Lane) (p : Payout) (hp : l.payout = some p)
    (h : l.transport.path ≠ [] ∨ (p.state = .picking ∧ ¬l.positionLost.quotasMet p)) :
    l.progress = l.positionLost.remixAsked := by
  have e : l.checkLost = l.positionLost := by
    rcases h with h | ⟨hs, hm⟩
    · exact Lane.checkLost_eq l (fun _ _ => .inl h)
    · by_cases hv : p.stackedValue = p.amount
      · -- then not halted after, nothing is lost
        rw [Lane.positionLost_def] at hm ⊢
        unfold Lane.checkLost
        rw [hp] at hm ⊢
        rcases hl : l.transport.pickList.find? l.lostEntry with _ | e
        · simp
        · rw [hl] at hm
          by_cases hh : l.transport.halted = false
          · exfalso; apply hm
            simp [hs, hh, Lane.quotasMet, hv, Lane.remixAsked]
          · simp [hh]
      · exact Lane.checkLost_eq l (fun p' hp' => .inr (by rw [hp] at hp'; cases hp'; exact hv))
  unfold Lane.progress
  rw [e]
  dsimp only
  rw [Lane.positionLost_payout, hp]
  refine Lane.drained_eq _ p (by rw [Lane.positionLost_payout, hp]) ?_
  rw [(Lane.positionLost_frame l).2.2.2.2.1]
  exact h

/-! ### Purges and ends -/

/-- A payout with notes of it in the path or the stacker is purged; without any it is over at once (R46). -/
theorem Lane.purge_eq (l : Lane) (p : Payout) (o : PayoutOutcome) :
    (l.transport.path ≠ [] ∨ l.transport.stacker.notes ≠ 0 → l.purge p o = l.purging p o)
    ∧ (l.transport.path = [] → l.transport.stacker.notes = 0 →
      l.purge p o = ({ l with drawer := { l.drawer with waiting := false } } : Lane).payoutOver p
        (.purge o.reason p.drawn p.binned) (.payoutFailed o p.binned)) := by
  unfold Lane.purge Lane.purgeIfDone Lane.endPurged Lane.purging
  simp only [Lane.endPayout_eq]
  refine ⟨fun h => ?_, fun h1 h2 => ?_⟩
  · rw [if_neg]
    rcases h with h | h <;> simp [h]
  · rw [if_pos (by simp [h1, h2])]; rfl

/-- Whether a run of the drawer ends at once rests on the drawer's end sensor, its run and the supervisor. -/
theorem Lane.settled_congr (l m : Lane) (h : l.settled = true) (ends : m.drawer.atEnd = l.drawer.atEnd)
    (runs : m.drawer.movement = l.drawer.movement) (sup : m.sup = l.sup) : m.settled = true := by
  unfold Lane.settled Lane.runEnds Lane.homesIn Lane.homes at *
  rw [ends, runs, sup]; exact h

/-- The end of a payout ends no drawer run. -/
theorem Lane.payoutOver_settled (l : Lane) (p r n) (h : l.settled = true) :
    (l.payoutOver p r n).settled = true := by
  have returning_sup : ∀ (x : Lane) k, (x.returning k).sup = x.sup := by
    intro x k; unfold Lane.returning; split <;> simp
  refine Lane.settled_congr l _ h ?_ ?_ ?_ <;> unfold Lane.payoutOver <;> dsimp only
  · repeat' split
    all_goals rfl
  · repeat' split
    all_goals rfl
  · rw [returning_sup]; rfl

/-- A lost position ends no drawer run. -/
theorem Lane.positionLost_settled (l : Lane) (h : l.settled = true) :
    l.positionLost.settled = true ∧ l.positionLost.remixAsked.settled = true := by
  obtain ⟨d, d', s, s', -⟩ := l.positionLost_frame
  exact ⟨Lane.settled_congr l _ h (by rw [d]) (by rw [d]) s, Lane.settled_congr l _ h (by rw [d']) (by rw [d']) s'⟩

end Sys2Proof.Machine
end

