-- ==== Sys2Proof/Laws/Closing.lean ====
section
/-! SUPPORT. Closing: what leaving OPEN, a driver fault, the bin, a jam and a stopped intake do, in the terms of
Safety.lean (R5, R7, R12, R55, R91, R100, R104, R105, R143, R148, R188). -/

namespace Sys2Proof.Machine

/-- Shutter and lamp follow the lane (R148). -/
theorem Lane.followLane_eq (l : Lane) : l.followLane = l.shown := by
  unfold Lane.followLane Lane.followShutter Lane.followLamp Lane.shown Lane.setupDone Lane.switchLamp Lane.lampDemand
  have e : ((l.sup.service == .closed || l.sup.service == .opened) && l.lockdown.state == .clear)
    = decide ((l.sup.service = .closed ∨ l.sup.service = .opened) ∧ l.lockdown.state = .clear) := by
    rcases l.sup.service <;> rcases l.lockdown.state <;> rfl
  have e2 : (l.sup.service == .opened && l.lockdown.state == .clear)
    = decide (l.sup.service = .opened ∧ l.lockdown.state = .clear) := by
    rcases l.sup.service <;> rcases l.lockdown.state <;> rfl
  rw [e]
  have f : ∀ b, (l.command .shutter b).drivers.lampHold = l.drivers.lampHold := fun _ => rfl
  have g : ∀ b, (l.command .shutter b).sup = l.sup := fun _ => rfl
  have k : ∀ b, (l.command .shutter b).lockdown = l.lockdown := fun _ => rfl
  have d : ∀ b, (l.command .shutter b).driver .laneLamp = l.driver .laneLamp := fun b => by
    unfold Lane.command; exact Lane.driver_withDriver_other _ _ _ _ (by decide)
  dsimp only
  rw [f, g, k, d, e2]
  by_cases h : l.drivers.lampHold.isSome = true
  · simp [h]
  · by_cases c : (l.driver .laneLamp).commanded = decide (l.sup.service = .opened ∧ l.lockdown.state = .clear)
    · simp only [h, c, if_true, or_true]; simp
    · simp only [h, c, if_false, or_false]; rfl

/-- A payout in STAGED or CLAIMING ends; any other stays (R54, R55). -/
theorem Lane.dropUndecided_eq (x : Lane) (code : ReplyCode) : x.dropUndecided code = match x.payout with
    | some p => if p.state = .staged ∨ p.state = .claiming then
        (({ x.abandonClaim .cash with payout := none } : Lane).returning p.slots).sending
          [replyTo ⟨p.console, p.tag⟩ 5 code]
      else x
    | none => x := by
  unfold Lane.dropUndecided Payout.undecided Lane.endUndecided
  rcases x.payout with _ | p
  · rfl
  · simp only [Bool.or_eq_true, beq_iff_eq, Lane.giveBack_eq, Lane.reply_eq]; rfl

/-- An abandoned claim changes the transmit queue alone. -/
theorem Lane.abandonClaim_tx (l : Lane) (q : Quantity) :
    l.abandonClaim q = l.withTx (l.abandonClaim q).bus.queue := by
  unfold Lane.abandonClaim; split <;> rfl

/-- A record in STAGED or CLAIMING is cancelled (R100). -/
theorem Lane.cancelRecord_eq (l : Lane) (r : EnvelopeRecord) (code : ReplyCode) (fault : Bool) :
    l.cancelRecord r code fault =
      if r.abandoned then
        { l with envelope := { l.envelope with record := some { r with faultAtEnd := r.faultAtEnd || fault } } }
      else (({ l.abandonClaim .place with envelope := { l.envelope with
          path := if l.envelope.path = .staged then pathAtEnd fault else l.envelope.path
          record := if l.envelope.path = .staged then none
            else some { r with abandoned := true, faultAtEnd := fault } } } : Lane).returning 1).sending
        [replyTo ⟨r.console, r.tag⟩ 10 code] := by
  unfold Lane.cancelRecord
  split
  · rfl
  · rw [Lane.abandonClaim_tx]
    simp only [Lane.giveBack_eq, Lane.reply_eq]
    by_cases h : l.envelope.path = .staged <;> simp [h, Lane.withTx] <;> rfl

/-- An OPEN slot closes on no envelope (R102, R104 to R106). -/
theorem Lane.closeSlot_eq (l : Lane) (r : EnvelopeRecord) (outcome : EnvelopeOutcome) (cause : Option CancelCause)
    (path : PathState) :
    l.closeSlot r outcome cause path =
      (({ l.sending [toEvery (.release .place 1) r.tag] with
        drivers := (l.command .envGate false).drivers
        ledgers := { l.ledgers with places := l.ledgers.places - 1 }
        envelope := { l.envelope with
          record := none, path := path, slotTimer := none, entryFilter := none } } : Lane).returning 1).sending
      [⟨.notice (.envelopeEnd outcome cause none), r.console, r.tag⟩] := by
  unfold Lane.closeSlot Lane.releasePlace
  simp only [Lane.giveBack_eq, Lane.noticeTo_eq, Lane.sendRelease_eq]; rfl

/-- A latched fault reaches the envelope path (R104). -/
theorem Lane.faultEnvelope_eq (l : Lane) : l.faultEnvelope = l.envelopeFaulted := by
  unfold Lane.faultEnvelope Lane.envelopeFaulted
  rcases hr : l.envelope.record with _ | r
  · rcases hp : l.envelope.path <;> rfl
  · rcases hp : l.envelope.path <;>
      simp only [Lane.cancelRecord_eq, Lane.closeSlot_eq, hp, pathAtEnd, Bool.or_true] <;> rfl


/-- The jobs of a lane that leaves OPEN (R55, R105). -/
theorem Lane.jobsClosed_eq (x : Lane) : (x.dropUndecided .state).cancelEnvelope .state .closed = x.jobsClosed := by
  have key : ∀ y : Lane, y.cancelEnvelope .state .closed =
      (let cancelled := fun (r : EnvelopeRecord) (path : PathState) (kept : Option EnvelopeRecord) =>
        if r.abandoned then y
        else (({ y.abandonClaim .place with
            envelope := { y.envelope with path := path, record := kept } } : Lane).returning 1).sending
          [replyTo ⟨r.console, r.tag⟩ 10 .state]
      match y.envelope.record, y.envelope.path with
      | some r, .staged => cancelled r .idle none
      | some r, .claiming => cancelled r .claiming (some { r with abandoned := true, faultAtEnd := false })
      | some r, .opened =>
        (({ y.sending [toEvery (.release .place 1) r.tag] with
            drivers := (y.command .envGate false).drivers
            ledgers := { y.ledgers with places := y.ledgers.places - 1 }
            envelope := { y.envelope with
              record := none, path := .idle, slotTimer := none, entryFilter := none } } : Lane).returning 1).sending
          [⟨.notice (.envelopeEnd .cancelled (some .closed) none), r.console, r.tag⟩]
      | _, _ => y) := by
    intro y
    unfold Lane.cancelEnvelope
    rcases hr : y.envelope.record with _ | r
    · rfl
    · obtain ⟨c, su, se, ca, tr, pa, dr, it, env, jo, lo, dv, lk, le, bu, fr⟩ := y
      obtain ⟨pt, rc, s1, e1, d1, e2, h1, se1, sv, ph, ep⟩ := env
      dsimp only at hr; subst hr
      rcases pt <;>
        simp only [Lane.cancelRecord_eq, Lane.closeSlot_eq, pathAtEnd, Bool.or_false, reduceCtorEq,
          if_true, if_false, Bool.false_eq_true]
  rw [key, Lane.dropUndecided_eq]
  rfl

/-- What the jobs leave as it was. -/
theorem Lane.jobsClosed_frame (x : Lane) : x.jobsClosed.clock = x.clock ∧ x.jobsClosed.settings = x.settings
    ∧ x.jobsClosed.sup = x.sup ∧ x.jobsClosed.drawer = x.drawer := by
  rw [← Lane.jobsClosed_eq]
  simp

/-- The lane leaves OPEN (R188). -/
theorem Lane.leaveOpen_eq (l : Lane) : l.leaveOpen = l.asClosed := by
  unfold Lane.leaveOpen Lane.asClosed
  by_cases h : l.sup.service = .opened
  · simp only [h, beq_self_eq_true, if_true]
    rw [Lane.jobsClosed_eq]
    generalize hx : ({ l with sup := { l.sup with service := .closed } } : Lane) = x
    obtain ⟨c, t, s, -⟩ := x.jobsClosed_frame
    have e : x.sup.service = .closed := by rw [← hx]
    have e1 : x.clock = l.clock := by rw [← hx]
    have e2 : x.settings = l.settings := by rw [← hx]
    obtain ⟨f1, f2, f3, -, -, -, -, -, -, -, -, -, f4, -⟩ := x.jobsClosed.followLane_frame
    rw [Lane.queueStatus_eq]
    have a : x.jobsClosed.followLane.sup.service.announces = true := by rw [f2, s, e]; rfl
    simp only [a, if_true, Lane.statusOut]
    rw [f1, f3, f4, c, t, e1, e2, Lane.followLane_eq]
  · simp [h]

/-- The closing cause DRIVER follows (R143). -/
theorem Lane.followDriverCause_eq (l : Lane) : l.followDriverCause = l.driverCaused := by
  have e : l.driverCause = (!(l.driver .shutter).latched.isEmpty
      || Sys2Proof.drivers.any (fun d => (l.driver d).latched.hot)) := by
    unfold Lane.driverCause Lane.latchedFault
    congr 1
  unfold Lane.followDriverCause Lane.driverCaused Lane.closedFor Lane.raise Lane.withdrawCause
  rw [← e]
  simp only [← Lane.leaveOpen_eq]
  rcases h : l.driverCause <;> rcases hd : l.sup.causes.driver <;> simp
  rw [← hd]

/-- A block raises a closing cause (R188). -/
theorem Lane.raise_eq (l : Lane) (f : Causes → Causes) : l.raise f = l.closedFor (f l.sup.causes) :=
  Lane.leaveOpen_eq _

/-- A closed lane is not OPEN, and the rest of its supervisor is as it was. -/
theorem Lane.asClosed_sup (l : Lane) : l.asClosed.sup =
    { l.sup with service := if l.sup.service = .opened then .closed else l.sup.service } := by
  unfold Lane.asClosed
  by_cases h : l.sup.service = .opened
  · simp only [h, if_true]
    obtain ⟨-, -, s, -⟩ := ({ l with sup := { l.sup with service := .closed } } : Lane).jobsClosed_frame
    rw [← Lane.followLane_eq]
    simp [Lane.sending, s]
  · simp [h]

/-! ### The bin, jams and stopped intakes -/

/-- The bin takes a note where it has room (R8). -/
theorem Lane.binAccept_eq (l : Lane) : l.binAccept = if l.binRoom then some l.binned else none := by
  unfold Lane.binAccept Lane.binned
  rw [Lane.setBin_eq]; rfl

/-- A jam at a pick point (R5). -/
theorem Lane.struckAt_eq (l : Lane) (i : Position) :
    l.setCassette i ((l.cass.entry.get i).fail .jam) = l.struckAt (some i) := by
  rw [Lane.setCassette_eq]
  unfold Lane.struckAt Cassette.fail CassState.derived
  rcases h : (l.cass.entry.get i).state <;> simp [h] <;> rfl

/-! ### Homing, jams and stops, and the ends of an intake -/

/-- Homing runs (R190). -/
theorem Lane.homes_iff (l : Lane) : l.homes = true ↔ l.sup.service = .starting ∧ l.sup.homing.running = true := by
  simp [Lane.homes]

/-- Homing's step 4 begins (R98). -/
theorem Lane.envelopeStep_eq (l : Lane) : l.envelopeStep = l.envelopeHoming := by
  unfold Lane.envelopeStep Lane.envelopeHoming Lane.homingStep Lane.carryEnvelope
  split
  · next h => rw [if_pos h]; rfl
  · next h => rw [if_neg h]

/-- Homing's step 2 begins (R73). -/
theorem Lane.drawerStep_eq (l : Lane) (h : l.homes = true) : l.drawerStep = l.drawerHoming := by
  have run : ∀ x : Lane, x.drawer.movement = some .homing → x.homesIn .drawer = true →
      x.settleRun = if x.drawer.atEnd = some .home then
        { x with
          drivers := (x.command .drawerIn false).drivers
          drawer := { x.drawer with
            position := .home, movement := none, travel := none, counting := true, counted := 0 } }
      else x := by
    intro x m hd
    have k : x.homes = true ∧ x.homesIn .module = false := by
      unfold Lane.homesIn at hd ⊢
      simp only [Bool.and_eq_true, beq_iff_eq] at hd
      simp [hd]
    unfold Lane.settleRun Lane.runEnds
    rcases x.drawer.atEnd with _ | _ | _
    · simp
    · simp only [m, k, Movement.end, beq_self_eq_true, Bool.not_false, Bool.and_true, Bool.or_true, if_true,
        Lane.arrive]
      rw [if_pos (by exact hd)]
      rfl
    · simp [m, Movement.end]
  unfold Lane.drawerStep
  rw [run _ rfl (by unfold Lane.homesIn; simp only [Bool.and_eq_true]; exact ⟨h, rfl⟩)]
  rfl

/-- The closing of a lane does not rest on its causes, and leaves them. -/
theorem Lane.asClosed_causes (l : Lane) (c : Causes) :
    ({ l.asClosed with sup := { l.asClosed.sup with causes := c } } : Lane)
      = ({ l with sup := { l.sup with causes := c } } : Lane).asClosed := by
  have a : ∀ (x : Lane) (c : Causes) k, ({ x with sup := { x.sup with causes := c } } : Lane).returning k
      = { x.returning k with sup := { x.sup with causes := c } } := by
    intro x c k; unfold Lane.returning; split <;> rfl
  have b : ∀ (x : Lane) (c : Causes) k, ({ x with sup := { x.sup with causes := c } } : Lane).abandonClaim k
      = { x.abandonClaim k with sup := { x.sup with causes := c } } := by
    intro x c k; unfold Lane.abandonClaim; dsimp only; split <;> rfl
  have d : ∀ (x : Lane) (c : Causes) k, ({ x with sup := { x.sup with causes := c } } : Lane).dropUndecided k
      = { x.dropUndecided k with sup := { x.sup with causes := c } } := by
    intro x c k
    rw [Lane.dropUndecided_eq, Lane.dropUndecided_eq, b]
    obtain ⟨x1, x2, x3, x4, x5, x6, x7, x8, x9, x10, x11, x12, x13, x14, x15, x16⟩ := x
    rcases x6 with _ | p
    · rfl
    · dsimp only
      split
      · unfold Lane.returning; split <;> rfl
      · rfl
  have e : ∀ (x : Lane) (c : Causes) k m, ({ x with sup := { x.sup with causes := c } } : Lane).cancelEnvelope k m
      = { x.cancelEnvelope k m with sup := { x.sup with causes := c } } := by
    intro x c k m
    unfold Lane.cancelEnvelope
    simp only [Lane.cancelRecord_eq, Lane.closeSlot_eq]
    rw [b]
    obtain ⟨x1, x2, x3, x4, x5, x6, x7, x8, x9, x10, x11, x12, x13, x14, x15, x16⟩ := x
    obtain ⟨path, record, y⟩ := x9
    rcases record with _ | r
    · rfl
    · rcases path <;> dsimp only <;> unfold Lane.returning <;> repeat' split
      all_goals rfl
  have j : ∀ (x : Lane) (c : Causes), ({ x with sup := { x.sup with causes := c } } : Lane).jobsClosed
      = { x.jobsClosed with sup := { x.sup with causes := c } } := by
    intro x c
    rw [← Lane.jobsClosed_eq, ← Lane.jobsClosed_eq, d]
    rw [show x.sup = (x.dropUndecided .state).sup by simp]
    rw [e]
  have s : ∀ (x : Lane) (c : Causes), ({ x with sup := { x.sup with causes := c } } : Lane).shown
      = { x.shown with sup := { x.sup with causes := c } } := by
    intro x c
    unfold Lane.shown
    dsimp only
    split
    · next h => rw [if_pos (by exact h)]; rfl
    · next h => rw [if_neg (by exact h)]; rfl
  unfold Lane.asClosed
  dsimp only
  by_cases h : l.sup.service = .opened
  · simp only [h, if_true]
    have j' := j ({ l with sup := { l.sup with service := .closed } } : Lane) c
    have q := ({ l with sup := { l.sup with service := .closed } } : Lane).jobsClosed_frame.2.2.1
    dsimp only at j' q
    rw [j']
    have s' := s ({ l with sup := { l.sup with service := .closed } } : Lane).jobsClosed c
    rw [q] at s'
    dsimp only at s'
    rw [s']
    unfold Lane.sending
    dsimp only
    have : (({ l with sup := { l.sup with service := .closed } } : Lane).jobsClosed.shown).sup
        = { l.sup with service := .closed } := by
      rw [← Lane.followLane_eq]; simp [q]
    rw [this]
  · simp [h]

/-- A lane that two causes close is closed once. -/
theorem Lane.closedFor_twice (l : Lane) (c d : Causes) : (l.closedFor c).closedFor d = l.closedFor d := by
  have n : (l.closedFor c).sup.service ≠ .opened := by
    unfold Lane.closedFor
    rw [Lane.asClosed_sup]
    by_cases h : l.sup.service = .opened <;> simp [h]
  have e : ∀ x : Lane, x.sup.service ≠ .opened → x.closedFor d = { x with sup := { x.sup with causes := d } } := by
    intro x hx; unfold Lane.closedFor Lane.asClosed; simp [hx]
  rw [e _ n]
  exact Lane.asClosed_causes _ d

/-- A cause closes no lane that is not OPEN (R188). -/
theorem Lane.closedFor_of_not_open (l : Lane) (c) (h : l.sup.service ≠ .opened) :
    l.closedFor c = { l with sup := { l.sup with causes := c } } := by
  unfold Lane.closedFor Lane.asClosed; simp [h]

/-- What a jam at a pick point leaves as it was. -/
theorem Lane.struckAt_frame (l : Lane) (a) : (l.struckAt a).sup = l.sup ∧ (l.struckAt a).drawer = l.drawer
   ∧ (l.struckAt a).payout = l.payout ∧ (l.struckAt a).intake = l.intake ∧ (l.struckAt a).transport = l.transport
   ∧ (l.struckAt a).settings = l.settings ∧ (l.struckAt a).journal = l.journal ∧ (l.struckAt a).clock = l.clock
   ∧ (l.struckAt a).free = l.free ∧ (l.struckAt a).envelope = l.envelope ∧ (l.struckAt a).lockdown = l.lockdown
   ∧ (l.struckAt a).cass.denominations = l.cass.denominations
   ∧ (∀ i, ((l.struckAt a).cass.entry.get i).mode = (l.cass.entry.get i).mode) := by
  unfold Lane.struckAt
  rcases a with _ | a
  · simp
  · refine ⟨rfl, rfl, rfl, rfl, rfl, rfl, rfl, rfl, rfl, rfl, rfl, rfl, ?_⟩
    intro i
    dsimp only
    rw [Four.get_set]
    split
    · subst i; split <;> rfl
    · rfl

/-- A transport jam, after its pick point is faulted (R5, R45, R70, R91, R190). -/
theorem Lane.jam_eq (l : Lane) (a) : l.jam a = (
  let m := l.struckAt a
  if m.drawer.counting then m.countStopped true
  else if m.homes then m.homingJam
  else
    match m.payout, m.intake with
    | some p, _ => if p.state = .picking ∨ p.state = .purging then m.payoutJammed p else m
    | none, some i =>
      if i.state = .feeding ∨ i.state = .keeping ∨ (i.state = .givingBack ∧ i.escrow ≠ []) then
        (m.stopIntake i 0).raise (fun c => { c with transportModule := true })
      else m
    | none, none => m) := by
  unfold Lane.jam
  rcases a with _ | a
  · rfl
  · dsimp only; rw [Lane.struckAt_eq] <;> rfl

/-- The end of a payout leaves the supervisor. -/
theorem Lane.payoutOver_sup (l : Lane) (p r n) : (l.payoutOver p r n).sup = l.sup := by
  unfold Lane.payoutOver; dsimp only; unfold Lane.returning; split <;> rfl

/-- An intake releases the drawer it owns, as an intake or a giveback (R62). -/
theorem Lane.releaseIntake (l : Lane) : (l.releaseDrawer .intake).releaseDrawer .giveback = { l with drawer :=
  match l.drawer.owner with
      | some o => if o.kind = .payout then l.drawer else { l.drawer with owner := none, receiving := false }
      | none => l.drawer } := by
  unfold Lane.releaseDrawer
  rcases h : l.drawer.owner with _ | ⟨k, t⟩
  · simp [h]
  · rcases k <;> simp [h]

/-- A jam at a pick point leaves the KEPT record. -/
theorem Lane.struckAt_keptRecord (l : Lane) (a i) : (l.struckAt a).keptRecord i = l.keptRecord i := by
  unfold Lane.keptRecord
  simp only [(l.struckAt_frame a).2.2.2.2.2.2.2.2.2.2.2.2]

/-- A jam at a pick point leaves the escrow value. -/
theorem Lane.struckAt_escrowValue (l : Lane) (a i) : (l.struckAt a).escrowValue i = l.escrowValue i := by
  unfold Lane.escrowValue
  have : (l.struckAt a).noteValue = l.noteValue := by
    funext n; unfold Lane.noteValue Lane.listValue; rw [(l.struckAt_frame a).2.2.2.2.2.2.2.2.2.2.2.1]
  rw [this]

/-- An intake stopped in each of its steps (R91). -/
theorem Lane.stopIntake_eq (l : Lane) (i : Intake) (n : Nat) :
    (i.state = .feeding → l.stopIntake i n = l.intakeStopped i (captured .suspect i.suspect)
      (.intakeEnd .jammed i.counts (l.escrowValue i) i.returned i.suspect i.uncollected i.trayLeft))
    ∧ (i.state = .keeping → l.stopIntake i n = l.intakeStopped i
      (if i.keptCount = 0 then [] else [l.keptRecord i])
      (.escrowEnd .jammed none i.keptCount 0 0 0 i.escrow.length))
    ∧ (i.state = .givingBack → n = 0 → l.stopIntake i n = l.intakeStopped i []
      (.escrowEnd .jammed (some i.cause) 0 0 0 0 0))
    ∧ (i.state = .returning → l.stopIntake i n = l.intakeStopped { i with uncollected := i.uncollected + n }
      (captured .uncollected n)
      (.intakeEnd .jammed i.counts (l.escrowValue i) i.returned i.suspect (i.uncollected + n) i.trayLeft)) := by
  refine ⟨fun h => ?_, fun h => ?_, fun h h0 => ?_, fun h => ?_⟩ <;>
    simp only [Lane.stopIntake, Lane.stopReport, h, Lane.releaseIntake, Lane.intakeStopped, Lane.captureIntake,
      Lane.joinIntake, Lane.intakeEnd, Lane.noticeTo_eq, toConsole, captured, Lane.joining]
  · by_cases hs : i.suspect = 0
    · simp only [hs, if_true]; simp [Lane.sending, Lane.escrowValue] <;> rfl
    · simp only [hs, if_false]; rfl
  · by_cases hs : i.keptCount = 0
    · simp only [hs, if_true]; simp [Lane.sending] <;> rfl
    · simp only [hs, if_false]; rfl
  · subst h0; simp [Lane.sending] <;> rfl
  · by_cases hs : n = 0
    · simp only [hs, if_true, Lane.sending, List.length_nil, List.map_nil, List.append_nil, Nat.sub_zero,
        Nat.add_zero]
      rfl
    · simp only [hs, if_false]; rfl

/-- A count that stops outside homing (R70). -/
theorem Lane.countStopped_eq (m : Lane) (j : Bool) (nh : m.homes = false) : m.countStopped j =
   (({ m with drawer := { m.drawer with counting := false, contents := .retained } } : Lane).retractDone j).raise
    (fun c =>
    if j then { c with transportDrawer := true } else { c with purgeDrawer := true }) := by
  unfold Lane.countStopped Lane.drawerHomed
  rw [if_neg]
  unfold Lane.homesIn
  have : ∀ x : Lane, x.homes = false → (∀ f, (x.raise f).homes = false) := by
    intro x hx f
    rw [Lane.raise_eq]; unfold Lane.closedFor Lane.homes
    rw [Lane.asClosed_sup]
    unfold Lane.homes at hx
    by_cases h : x.sup.service = .opened
    · simp [h]
    · simpa [h] using hx
  have z : ({ m with drawer := { m.drawer with counting := false, contents := .retained } } : Lane).homes = false := nh
  have w : (({ m with drawer := { m.drawer with counting := false, contents := .retained } } : Lane).retractDone
      j).homes = false := by
    have base : ∀ x y : Lane, y.sup = x.sup → x.homes = false → y.homes = false := by
      intro x y e hx; unfold Lane.homes at *; rw [e]; exact hx
    unfold Lane.retractDone
    split
    · unfold Lane.payoutRetracted; rw [Lane.endPayout_eq]; exact base _ _ (Lane.payoutOver_sup _ _ _ _) z
    · unfold Lane.intakeRetracted Lane.captureIntake Lane.joinIntake
      dsimp only
      split
      · refine base _ _ ?_ z; split <;> simp
      · split
        · refine this _ ?_ _; refine base _ _ ?_ z; simp
        · refine base _ _ ?_ z; split <;> simp
    · exact z
  rw [this _ w]; simp

/-- A deposit is HELD, or over with an empty escrow (R81). -/
theorem Lane.heldOrEnd_eq (l : Lane) (i : Intake) : l.heldOrEnd i = l.depositOver i := by
  unfold Lane.heldOrEnd Lane.depositOver Lane.endIntake Lane.intakeEnd Lane.escrowStart Lane.locked
  simp only [Lane.giveBack_eq, Lane.noticeTo_eq, toConsole]
  obtain ⟨a1, a2, a3, a4, a5, a6, a7, a8, a9, a10, a11, es, a13⟩ := i
  rcases es with _ | ⟨e, es⟩
  · rfl
  · rcases l.lockdown.state <;> rfl

/-- The end of a deposit leaves the supervisor. -/
theorem Lane.depositOver_sup (l : Lane) (i : Intake) : (l.depositOver i).sup = l.sup := by
  unfold Lane.depositOver; dsimp only; split
  · unfold Lane.returning; split <;> rfl
  · rfl

/-- The end of a giveback leaves the supervisor. -/
theorem Lane.givebackOver_sup (l : Lane) (i : Intake) (o c u) : (l.givebackOver i o c u).sup = l.sup := by
  unfold Lane.givebackOver Lane.returning; split <;> rfl

/-- A CAPTURE record, if it counts at least one note (R80, R82, R89). -/
theorem Lane.captureIntake_eq (x : Lane) (i : Intake) (r) (n : Nat) : x.captureIntake i r n =
    (({ x with
        intake := if n = 0 then x.intake else some { i with slots := i.slots - 1 }
        journal := x.joining (captured r n) } : Lane),
     { i with slots := i.slots - (captured r n).length }) := by
  unfold Lane.captureIntake Lane.joinIntake Lane.joining captured
  by_cases h : n = 0
  · simp only [h, if_true, List.map_nil, List.append_nil, List.length_nil, Nat.sub_zero]
  · simp only [h, if_false]; rfl

/-- The count of an intake's returns is over (R82). -/
theorem Lane.intakeRetracted_deposit (x : Lane) (i : Intake) (t) (ho : x.drawer.owner = some ⟨.intake, t⟩)
    (hs : i.state ≠ .givingBack) :
    let taken := captured .uncollected x.drawer.counted
    x.intakeRetracted i false = ({ x with
      drawer := { x.drawer with owner := none, receiving := false }
      journal := x.joining taken } : Lane).depositOver
        { i with uncollected := i.uncollected + x.drawer.counted, slots := i.slots - taken.length } := by
  unfold Lane.intakeRetracted
  have : (i.state == .givingBack) = false := by simpa using hs
  simp only [this, Bool.false_eq_true, if_false, Lane.captureIntake_eq, Lane.heldOrEnd_eq]
  unfold Lane.releaseDrawer
  simp only [ho, beq_self_eq_true, if_true]
  rfl

/-- The count of a giveback is over (R89). -/
theorem Lane.intakeRetracted_giveback (x : Lane) (i : Intake) (jam) (t)
    (ho : x.drawer.owner = some ⟨.giveback, t⟩) (hs : i.state = .givingBack) :
    let taken := captured .uncollected x.drawer.counted
    x.intakeRetracted i jam = ({ x with
      drawer := { x.drawer with owner := none, receiving := false }
      journal := x.joining taken } : Lane).givebackOver
        { i with uncollected := i.uncollected + x.drawer.counted, slots := i.slots - taken.length } .retracted
        x.drawer.counted 0 := by
  unfold Lane.intakeRetracted
  simp only [hs, beq_self_eq_true, if_true, Lane.captureIntake_eq, Lane.endIntake, Lane.giveBack_eq,
    Lane.givebackEnd, Lane.noticeTo_eq, toConsole]
  unfold Lane.releaseDrawer
  simp only [ho, beq_self_eq_true, if_true]
  rfl

end Sys2Proof.Machine
end

