-- ==== Sys2Proof/Laws/Memory.lean ====
section
/-! SUPPORT. Memory: the cells of the cartridge: a read after a write, the canonical form that every memory
operation keeps, and that a programming clears bits and sets none (R114). -/

namespace Sys2Proof.Machine

/-! ### The canonical form -/

theorem Memory.wfAbove_cons (bound : Option Nat) (a : Nat) (b : Byte) (m : List Host.Cell) :
    Memory.wfAbove bound ((a, b) :: m) = true ↔
      (∀ n, bound = some n → n < a) ∧ b ≠ 0xFF#8 ∧ Memory.wfAbove (some a) m = true := by
  cases bound <;> simp [Memory.wfAbove, and_assoc]

theorem Memory.wfAbove_mono {m : List Host.Cell} {a : Nat} {bound : Option Nat}
    (h : Memory.wfAbove (some a) m = true) (hb : ∀ n, bound = some n → n ≤ a) :
    Memory.wfAbove bound m = true := by
  cases m with
  | nil => cases bound <;> rfl
  | cons c rest =>
    obtain ⟨x, v⟩ := c
    rw [Memory.wfAbove_cons] at h ⊢
    exact ⟨fun n hn => Nat.lt_of_le_of_lt (hb n hn) (h.1 a rfl), h.2⟩

/-- Below its least address a canonical list reads all ones. -/
theorem Memory.read_below {m : List Host.Cell} {a x : Nat} (h : Memory.wfAbove (some a) m = true)
    (hx : x ≤ a) : Memory.read m x = 0xFF#8 := by
  cases m with
  | nil => rfl
  | cons c rest =>
    obtain ⟨y, v⟩ := c
    have := ((Memory.wfAbove_cons _ _ _ _).mp h).1 a rfl
    simp only [Memory.read]
    rw [if_neg (by omega), if_pos (by omega)]

theorem Memory.write_wfAbove {m : List Host.Cell} {bound : Option Nat} {x : Nat} (v : Byte)
    (h : Memory.wfAbove bound m = true) (hx : ∀ n, bound = some n → n < x) :
    Memory.wfAbove bound (Memory.write m x v) = true := by
  induction m generalizing bound with
  | nil =>
    simp only [Memory.write]
    split
    · exact h
    · exact (Memory.wfAbove_cons _ _ _ _).mpr ⟨hx, ‹_›, rfl⟩
  | cons c rest ih =>
    obtain ⟨a, b⟩ := c
    have hc := (Memory.wfAbove_cons _ _ _ _).mp h
    have keep : Memory.wfAbove bound rest = true :=
      Memory.wfAbove_mono hc.2.2 (fun n hn => Nat.le_of_lt (hc.1 n hn))
    simp only [Memory.write]
    split
    · next e =>
      subst e
      split
      · exact keep
      · exact (Memory.wfAbove_cons _ _ _ _).mpr ⟨hx, ‹_›, hc.2.2⟩
    · split
      · next lt =>
        split
        · exact h
        · exact (Memory.wfAbove_cons _ _ _ _).mpr
            ⟨hx, ‹_›, (Memory.wfAbove_cons _ _ _ _).mpr ⟨fun n hn => by cases hn; exact lt, hc.2⟩⟩
      · exact (Memory.wfAbove_cons _ _ _ _).mpr
          ⟨hc.1, hc.2.1, ih hc.2.2 (fun n hn => by cases hn; omega)⟩

/-- A write keeps the canonical form. -/
theorem Memory.write_wf {m : List Host.Cell} (x : Nat) (v : Byte) (h : Memory.wf m = true) :
    Memory.wf (Memory.write m x v) = true :=
  Memory.write_wfAbove v h (fun _ hn => nomatch hn)

theorem Memory.writeBytes_wf {m : List Host.Cell} (page slot : Nat) (v : SlotBits) (n : Nat)
    (h : Memory.wf m = true) : Memory.wf (Memory.writeBytes m page slot v n) = true := by
  induction n with
  | zero => exact h
  | succ n ih => exact Memory.write_wf _ _ ih

/-- A programming keeps the canonical form. -/
theorem Memory.program_wf {m : List Host.Cell} (page slot : Nat) (v : SlotBits) (h : Memory.wf m = true) :
    Memory.wf (Memory.program m page slot v) = true := Memory.writeBytes_wf _ _ _ _ h

/-- Any list of cells is brought to the canonical form. -/
theorem Memory.canonical_wf (cells : List Host.Cell) : Memory.wf (Memory.canonical cells) = true := by
  have step : ∀ (cs m : List Host.Cell), Memory.wf m = true →
      Memory.wf (cs.foldl (fun m c => Memory.write m c.1 (Memory.read m c.1 &&& c.2)) m) = true := by
    intro cs
    induction cs with
    | nil => exact fun m h => h
    | cons c rest ih => exact fun m h => ih _ (Memory.write_wf _ _ h)
  exact step cells [] rfl

/-- The cartridge of the machine after reset is in canonical form. -/
theorem State.reset_cells_wf : Memory.wf State.reset.lane.journal.cells = true := rfl

/-! ### Read after write -/

/-- A write to one address: a read there gives the value, a read elsewhere what it gave before. -/
theorem Memory.read_write_above {m : List Host.Cell} {bound : Option Nat} (x y : Nat) (v : Byte)
    (h : Memory.wfAbove bound m = true) :
    Memory.read (Memory.write m x v) y = if y = x then v else Memory.read m y := by
  induction m generalizing bound with
  | nil =>
    by_cases hv : v = 0xFF#8 <;> by_cases hy : y = x <;> simp_all [Memory.write, Memory.read]
  | cons c rest ih =>
    obtain ⟨a, b⟩ := c
    have hc := (Memory.wfAbove_cons _ _ _ _).mp h
    simp only [Memory.write]
    split
    · next e =>
      subst e
      split
      · next hv =>
        by_cases hy : y = x
        · subst hy
          rw [if_pos rfl, Memory.read_below hc.2.2 (Nat.le_refl _), hv]
        · rw [if_neg hy]
          simp only [Memory.read, if_neg hy]
          split
          · exact Memory.read_below hc.2.2 (by omega)
          · rfl
      · by_cases hy : y = x
        · simp [Memory.read, hy]
        · simp [Memory.read, hy]
    · next ne =>
      split
      · next lt =>
        split
        · next hv =>
          by_cases hy : y = x
          · subst hy; simp [Memory.read, ne, lt, hv]
          · simp [hy]
        · by_cases hy : y = x
          · simp [Memory.read, hy]
          · simp only [Memory.read, if_neg hy]
            split
            · rw [if_neg (by omega), if_pos (by omega)]
            · rfl
      · next nlt =>
        simp only [Memory.read]
        rw [ih hc.2.2]
        by_cases hya : y = a
        · subst hya; simp [Ne.symm ne]
        · simp only [if_neg hya]
          split
          · next l => rw [if_neg (by omega)]
          · rfl

theorem Memory.read_write {m : List Host.Cell} (x y : Nat) (v : Byte) (h : Memory.wf m = true) :
    Memory.read (Memory.write m x v) y = if y = x then v else Memory.read m y :=
  Memory.read_write_above x y v h

/-- The bytes written from byte 0 of a slot on, and every other address as before. -/
theorem Memory.read_writeBytes {m : List Host.Cell} (page slot : Nat) (v : SlotBits) (n y : Nat)
    (h : Memory.wf m = true) :
    Memory.read (Memory.writeBytes m page slot v n) y =
      if slotAddress page slot 0 ≤ y ∧ y < slotAddress page slot 0 + n
      then slotByte v (y - slotAddress page slot 0) else Memory.read m y := by
  induction n with
  | zero => rw [if_neg (by omega)]; rfl
  | succ n ih =>
    have ha : slotAddress page slot n = slotAddress page slot 0 + n := by simp [slotAddress]
    rw [Memory.writeBytes, Memory.read_write _ _ _ (Memory.writeBytes_wf _ _ _ _ h), ih, ha]
    by_cases hy : y = slotAddress page slot 0 + n
    · subst hy; simp
    · rw [if_neg hy]
      by_cases hc : slotAddress page slot 0 ≤ y ∧ y < slotAddress page slot 0 + n
      · rw [if_pos hc, if_pos (by omega)]
      · rw [if_neg hc, if_neg (by omega)]

/-! ### Slots and programming -/

theorem slotByte_getLsbD (v : SlotBits) (k i : Nat) (hi : i < 8) :
    (slotByte v k).getLsbD i = v.getLsbD (8 * (15 - k) + i) := by
  rw [slotByte, BitVec.getLsbD_ofNat, Nat.testBit_shiftRight, BitVec.testBit_toNat]
  simp [hi]

/-- A byte of the AND of two slots is the AND of their bytes. -/
theorem slotByte_and (v w : SlotBits) (k : Nat) : slotByte (v &&& w) k = slotByte v k &&& slotByte w k := by
  apply BitVec.eq_of_getLsbD_eq
  intro i hi
  simp only [slotByte_getLsbD _ _ _ hi, BitVec.getLsbD_and]

theorem Memory.readFrom_high (m : List Host.Cell) (page slot n acc : Nat) :
    Memory.readFrom m page slot n acc / 256 ^ n = acc := by
  induction n generalizing acc with
  | zero => simp [Memory.readFrom]
  | succ n ih =>
    have b := (Memory.read m (slotAddress page slot (15 - n))).isLt
    rw [Memory.readFrom, Nat.pow_succ, ← Nat.div_div_eq_div_mul, ih]
    omega

theorem Memory.readFrom_byte (m : List Host.Cell) (page slot n acc j : Nat) (hj : j < n) :
    (Memory.readFrom m page slot n acc / 256 ^ j) % 256
      = (Memory.read m (slotAddress page slot (15 - j))).toNat := by
  induction n generalizing acc with
  | zero => omega
  | succ n ih =>
    have b := (Memory.read m (slotAddress page slot (15 - j))).isLt
    rw [Memory.readFrom]
    by_cases h : j < n
    · exact ih _ h
    · obtain rfl : j = n := by omega
      rw [Memory.readFrom_high]
      omega

/-- A byte of what a slot reads is the byte at its address. -/
theorem slotByte_readSlot (m : List Host.Cell) (page slot k : Nat) (hk : k < 16) :
    slotByte (Memory.readSlot m page slot) k = Memory.read m (slotAddress page slot k) := by
  have e := Memory.readFrom_byte m page slot 16 0 (15 - k) (by omega)
  rw [show 15 - (15 - k) = k by omega] at e
  apply BitVec.eq_of_getLsbD_eq
  intro i hi
  rw [slotByte_getLsbD _ _ _ hi, Memory.readSlot, BitVec.getLsbD_ofNat, BitVec.getLsbD, ← e,
    show (256 : Nat) = 2 ^ 8 from rfl, ← Nat.pow_mul, Nat.testBit_mod_two_pow, Nat.testBit_div_two_pow]
  rw [Nat.add_comm]
  simp [hi, show i + 8 * (15 - k) < 128 by omega]

/-- A programmed slot: each of its bytes is the AND of what it held and what was programmed, and every
other address reads as before (R114). -/
theorem Memory.read_program {m : List Host.Cell} (page slot : Nat) (v : SlotBits) (y : Nat)
    (h : Memory.wf m = true) :
    Memory.read (Memory.program m page slot v) y =
      if slotAddress page slot 0 ≤ y ∧ y < slotAddress page slot 0 + 16
      then Memory.read m y &&& slotByte v (y - slotAddress page slot 0) else Memory.read m y := by
  rw [Memory.program, Memory.read_writeBytes _ _ _ _ _ h]
  split
  · next hc =>
    have ha : slotAddress page slot (y - slotAddress page slot 0) = y := by
      simp only [slotAddress] at hc ⊢
      omega
    rw [slotByte_and, slotByte_readSlot _ _ _ _ (by omega), ha]
  · rfl

/-- A programming sets no bit (R114). -/
theorem Memory.program_clears {m : List Host.Cell} (page slot : Nat) (v : SlotBits) (y : Nat)
    (h : Memory.wf m = true) :
    Memory.read (Memory.program m page slot v) y &&& Memory.read m y
      = Memory.read (Memory.program m page slot v) y := by
  rw [Memory.read_program _ _ _ _ h]
  split
  · rw [BitVec.and_comm, ← BitVec.and_assoc, BitVec.and_self]
  · exact BitVec.and_self

/-- Two slots that agree in every byte are the same. -/
theorem SlotBits.ext_bytes {v w : SlotBits} (h : ∀ k, k < 16 → slotByte v k = slotByte w k) : v = w := by
  apply BitVec.eq_of_getLsbD_eq
  intro i hi
  have e := congrArg (fun b => b.getLsbD (i % 8)) (h (15 - i / 8) (by omega))
  simp only [slotByte_getLsbD _ _ _ (Nat.mod_lt i (by omega : 0 < 8))] at e
  rwa [show 8 * (15 - (15 - i / 8)) + i % 8 = i by omega] at e

/-- A programmed slot reads the AND of what it read and what was programmed (R114). -/
theorem Memory.readSlot_program_same {m : List Host.Cell} (page slot : Nat) (v : SlotBits)
    (h : Memory.wf m = true) :
    Memory.readSlot (Memory.program m page slot v) page slot = Memory.readSlot m page slot &&& v := by
  apply SlotBits.ext_bytes
  intro k hk
  rw [slotByte_and, slotByte_readSlot _ _ _ _ hk, slotByte_readSlot _ _ _ _ hk, Memory.read_program _ _ _ _ h,
    if_pos (by simp only [slotAddress]; omega)]
  simp [slotAddress]

/-- Every other slot reads as before (R114). -/
theorem Memory.readSlot_program_other {m : List Host.Cell} (page slot page' slot' : Nat) (v : SlotBits)
    (h : Memory.wf m = true) (hne : page' * 16 + slot' ≠ page * 16 + slot) :
    Memory.readSlot (Memory.program m page slot v) page' slot' = Memory.readSlot m page' slot' := by
  apply SlotBits.ext_bytes
  intro k hk
  rw [slotByte_readSlot _ _ _ _ hk, slotByte_readSlot _ _ _ _ hk, Memory.read_program _ _ _ _ h,
    if_neg (by simp only [slotAddress]; omega)]

/-- The seal check reads record slots alone: it is as before when the header is programmed (R120). -/
theorem sealCheck_program_header {m : List Host.Cell} (page : Nat) (v : SlotBits) (h : Memory.wf m = true) :
    sealCheck (Memory.program m page 0 v) page = sealCheck m page := by
  have e : ∀ s ∈ recordSlots, slotBitList (Memory.readSlot (Memory.program m page 0 v) page s)
      = slotBitList (Memory.readSlot m page s) := by
    intro s hs
    have : s ≠ 0 := by rintro rfl; exact absurd hs (by decide)
    rw [Memory.readSlot_program_other _ _ _ _ _ h (by omega)]
  rw [sealCheck, sealCheck, List.flatMap_def, List.flatMap_def, List.map_congr_left e]

end Sys2Proof.Machine
end

