-- ==== Sys2Proof/WellFormed.lean ====
section
/-! DEFINITION. WellFormed: the ranges of the operands that their types do not already hold. The
meanings are total; an ill-formed term is one no frame or sensor of the part can give. -/

namespace Sys2Proof

/-- The lane count strap gives 1 to 8 (R188). -/
def ResetInputs.wf (i : ResetInputs) : Bool := 1 ≤ i.laneCount && i.laneCount ≤ 8

/-- The fields of a STATUS fit their bytes: cash and W three, places and S two (R196). -/
def StatusHeard.wf (s : StatusHeard) : Bool :=
  s.cash < 2 ^ 24 && s.places < 2 ^ 16 && s.wall < 2 ^ 24 && s.safe < 2 ^ 16

/-- A cartridge's cells lie within its 4,096 pages of 256 bytes, addresses strictly rising, none at
all ones (R114). -/
def cellsWf : List Host.Cell → Bool
  | [] => true
  | [c] => c.1 < 2 ^ 20 && c.2 != 0xFF#8
  | c :: d :: rest => c.1 < d.1 && c.2 != 0xFF#8 && cellsWf (d :: rest)

/-- The operands of a command lie in the ranges their frame fields or sensors give (R175, R196). -/
def Instr.wf : Instr → Bool
  | .powerReset inp => inp.wf
  | .lineReset inp => inp.wf
  | .restart _ inp => inp.wf
  | .payout _ amount _ => amount < 2 ^ 24
  | .restock _ _ count denomination => count < 2 ^ 16 && denomination < 2 ^ 16
  | .journal _ index => index < 2 ^ 16
  | .peerClaimHeard _ _ amount => amount < 2 ^ 24
  | .peerReleaseHeard _ _ amount => amount < 2 ^ 24
  | .peerStatusHeard _ status => status.wf
  | .emptiedHeard _ epoch => epoch < 2 ^ 16
  | .frameReceived f => f.payload.length < 32
  | .cartridgeInsertion (some cells) => cellsWf cells
  | .journalScanComplete | .homingComplete | .setup .. | .setupDone _ | .laneOpen _ | .laneClose _
  | .laneNone _ | .laneClearDrawer .. | .test _ | .testComplete _ | .recall _ | .intake .. | .keep _
  | .giveback _ | .escrowTimerExpiry | .slot _ | .inventory .. | .loops _ | .loopsClear _ | .drivers _
  | .driversClear _ | .safeOpen _ | .safeClose _ | .resume _ | .rollcall .. | .lockdownFrameHeard ..
  | .safeServiceBeginHeard _ | .safeServiceEndHeard _ | .attemptStart | .arbitrationLost | .attemptFailed
  | .muteDropsEnd | .frameReadback | .cashClaimReadback | .placeClaimReadback | .safeBeginReadback
  | .serviceEndReadback | .breakHeard | .breakEnd | .announceTimerExpiry | .staleTimeout _
  | .listenDeadline _ | .silenceTimerExpiry | .loopMeasurement .. | .loopFilterExpiry _ | .hitAgeing
  | .holdTimerExpiry | .driverConditionChange .. | .blankingExpiry _ | .tempHot | .tempNormal
  | .strobeMinOnExpiry | .lampHoldExpiry | .pick | .checkResult _ | .checkMiss | .remixAnswer
  | .transportJam _ | .binNoteDelivery _ | .cassetteRemoval _ | .cassetteInsertion _
  | .endSensorArrival _ | .travelTimerExpiry | .drawerSensorLost _ | .traySensorChange _
  | .takeFilterExpiry | .takeTimerExpiry | .placementFilterExpiry | .waitTimerExpiry
  | .retractTrayExhausted | .noteFed _ | .feederTrayExhausted | .escrowNoteStacked | .givebackNoteMoved
  | .entrySensorChange _ | .entryFilterExpiry | .slotTimerExpiry | .dropSensorReport | .dropTimerExpiry
  | .journalWriteStart | .journalLineAnswer _ | .journalLineTimeout | .cartridgeRemoval
  | .cartridgeInsertion none => true

end Sys2Proof
end

