-- ==== Sys2Proof/Tests/Slice0.lean ====
section
/-! SUPPORT. Slice0: smoke tests of well-formedness, small tests of the commands against the manual's own
numbers, and for each obligation with hypotheses the concrete lanes that meet them, clause by clause. A
witness either states a clause's hypotheses of a lane or, for a clause of a test table, the answer that the
failing test gives there. -/

namespace Sys2Proof.Tests

-- One after another: in the joined text each kernel decision would wait on a thread of its own.
set_option Elab.async false

open Sys2Proof Sys2Proof.Machine

/-! ### Small lanes -/

/-- The attending console's request with tag 5, the supervisor console's with tag 6, another console's. -/
def att : Sender := ⟨8, 5⟩
def sv : Sender := ⟨9, 6⟩
def other : Sender := ⟨10, 7⟩

/-- A cassette with the default capacity and a low mark of 10. -/
def cassette (mode : CassMode) (denomination : Option Nat) (count : Nat) (state : CassState) : Cassette where
  mode := mode
  denomination := denomination
  count := count
  value := if mode = .deposit then some 0 else none
  capacity := 2000
  lowMark := 10
  state := state
  badRun := 0
  cause := none
  lastRestock := none

/-- An OPEN lane 0 of a wall of two, lane 1 fresh: 100s at position 0, 20s to recycle at 1, deposits at 2;
consoles 8 and 9; page 0 of the cartridge open. -/
def opened : Lane :=
  let l := Lane.afterReset 0 2 .power true
  { l with
    clock := 100000
    sup := { l.sup with service := .opened }
    settings := { l.settings with attending := some 8, supervisor := some 9 }
    cass := { l.cass with
      entry := ⟨cassette .dispense (some 100) 50 .ok, cassette .recycle (some 20) 60 .ok,
        cassette .deposit none 0 .empty, Cassette.afterReset⟩
      denominations := { Eight.replicate none with e0 := some 20, e1 := some 50 } }
    drawer := { l.drawer with position := .home, movement := none, atEnd := some .home }
    journal := { l.journal with
      state := .ready, writePage := some 0, nextSlot := 2, nextPrimary := 1, lastPageSequence := 1
      highest := 1 }
    ledgers := { l.ledgers with
      peer := l.ledgers.peer.set 1 { l.ledgers.peer.get 1 with state := .fresh, service := some .opened, heard := true, heardAt := 100000 } } }

/-- The lane in another service state. -/
def serving (s : Service) : Lane := { opened with sup := { opened.sup with service := s } }

/-- The lane CLOSED. -/
def closed : Lane := serving .closed

/-- The lane in another lockdown state; a LOCKED one has 1,500 ms of its hold left. -/
def withLock (s : LockState) : Lane :=
  { opened with lockdown :=
    { state := s, hold := if s = .locked then some 101500 else none, heldRecords := [] } }

/-- A payout of 100 in a state, tag 5. -/
def pay (st : PayoutState) : Payout where
  tag := 5
  console := 8
  amount := 100
  mode := .fewest
  mix := { picks := [(0, 1)], belowMark := false }
  drawn := ⟨1, 0, 0, 0⟩
  stackedNotes := 0
  stackedValue := 0
  diverted := 0
  binned := 0
  recallPending := false
  state := st
  outcome := none
  slots := if st = .staged ∨ st = .claiming then 2 else 1

/-- The lane with that payout. -/
def paying (st : PayoutState) : Lane := { opened with payout := some (pay st) }

/-- An intake in a state, tag 5, with two notes in escrow. -/
def deposit (st : IntakeState) : Intake where
  tag := 5
  console := 8
  maximum := 3
  state := st
  returned := 0
  suspect := 0
  uncollected := 0
  trayLeft := false
  presentDeferred := false
  presentMade := false
  timer := .stopped
  escrow := [⟨0, true⟩, ⟨1, false⟩]
  plan := [1, 2]
  keptNotes := Four.replicate 0
  keptValue := Four.replicate 0
  keptCount := 0
  keptTotal := 0
  givebackNotes := 2
  cause := .request
  jammedFrom := none
  slots := 1

/-- The lane with that intake. -/
def depositing (st : IntakeState) : Lane := { opened with intake := some (deposit st) }

/-- The lane with an envelope record and its path. -/
def posting (path : PathState) (abandoned : Bool) : Lane :=
  { opened with envelope := { opened.envelope with
    path := path
    record := some { tag := 5, console := 8, abandoned := abandoned, faultAtEnd := false
                     serial := if path = .capturing then some 1 else none } } }

/-- The lane with a transmit queue. -/
def sendingNow (q : List TxFrame) : Lane := { opened with bus := { opened.bus with queue := q } }

/-- A frame of the queue, and the same with its attempt on the line. -/
def frame (b : TxBody) : TxFrame := TxFrame.fresh b 15 5
def onLine (b : TxBody) : TxFrame := { frame b with onLine := true, begun := true }

/-- Frames of the four classes. -/
def lockFrame : TxFrame := frame (.lockdown ⟨0, 1⟩)
def claimFrame : TxFrame := frame (.claim .cash 100)
def replyFrame : TxFrame := frame (.reply 11 .done .empty)
def statusFrame : TxFrame := frame (.status none)

/-- The lane after a command. -/
def after (c : Instr) (l : Lane) : Lane :=
  match exec c ⟨[], l⟩ with
  | .next t => t.lane
  | _ => l

/-- The step answers a next state. -/
def runs (s : State) : Bool := match step s with | .next _ => true | _ => false

/-- The codes of the replies in the transmit queue after a command. -/
def answers (c : Instr) (l : Lane) : List ReplyCode :=
  (after c l).bus.queue.filterMap
    (fun f => match f.body with | .reply _ code _ => some code | _ => none)

/-! ### Well-formedness: a term each check refuses -/

theorem test_wf_reset_lane_count : (Instr.powerReset ⟨0, 9, true, true, 128#8⟩).wf = false
    ∧ (Instr.lineReset ⟨0, 0, true, true, 128#8⟩).wf = false
    ∧ (Instr.restart sv ⟨0, 9, true, true, 128#8⟩).wf = false
    ∧ (Instr.powerReset ⟨0, 8, true, true, 128#8⟩).wf = true := by decide

theorem test_wf_amounts : (Instr.payout att (2 ^ 24) 0#8).wf = false
    ∧ (Instr.peerClaimHeard 1 .cash (2 ^ 24)).wf = false
    ∧ (Instr.peerReleaseHeard 1 .cash (2 ^ 24)).wf = false
    ∧ (Instr.payout att (2 ^ 24 - 1) 0#8).wf = true := by decide

theorem test_wf_two_byte_fields : (Instr.restock sv 0#8 65536 0).wf = false
    ∧ (Instr.restock sv 0#8 0 65536).wf = false
    ∧ (Instr.journal att 65536).wf = false
    ∧ (Instr.emptiedHeard 1 65536).wf = false
    ∧ (Instr.restock sv 0#8 65535 65535).wf = true := by decide

theorem test_wf_status : (Instr.peerStatusHeard 1 ⟨none, none, 2 ^ 24, 0, 0, 0⟩).wf = false
    ∧ (Instr.peerStatusHeard 1 ⟨none, none, 0, 65536, 0, 0⟩).wf = false
    ∧ (Instr.peerStatusHeard 1 ⟨none, none, 0, 0, 2 ^ 24, 0⟩).wf = false
    ∧ (Instr.peerStatusHeard 1 ⟨none, none, 0, 0, 0, 65536⟩).wf = false
    ∧ (Instr.peerStatusHeard 1 ⟨none, none, 1, 1, 1, 1⟩).wf = true := by decide

theorem test_wf_frame_and_cells :
    (Instr.frameReceived ⟨0, 1, 0, 15, 0, 2, List.replicate 32 0#8, 0⟩).wf = false
    ∧ (Instr.cartridgeInsertion (some [(2 ^ 20, 0#8)])).wf = false
    ∧ (Instr.cartridgeInsertion (some [(1, 0xFF#8)])).wf = false
    ∧ (Instr.cartridgeInsertion (some [(2, 0#8), (1, 0#8)])).wf = false
    ∧ (Instr.cartridgeInsertion (some [(1, 0#8), (2, 0#8)])).wf = true := by decide

/-! ### The machine and its commands -/

/-- Homing at a step, its envelope left in the mechanism or not. -/
def homingAt (st : HomingStep) (held : Bool) : Lane :=
  { opened with
    sup := { opened.sup with service := .starting, homing := { Homing.idle with running := true, step := st } }
    envelope := { opened.envelope with held := held } }

/-- The HOME sensor does not report. -/
def awayFromHome (l : Lane) : Lane := { l with drawer := { l.drawer with atEnd := none } }

theorem witness_IdleStepTakesDueTimerOrTicks :
    ({ opened with bus := { opened.bus with breakTimer := some 100000 } } : Lane).due = [.breakEnd]
    ∧ State.reset.lane.due = [] ∧ opened.due = [] ∧ opened.sup.service ≠ .starting
    ∧ (homingAt .module false).due = [] ∧ (homingAt .module false).sup.homing.step = .module
    ∧ (homingAt .module false).drawer.atEnd = some .home
    ∧ (awayFromHome (homingAt .module false)).due = []
    ∧ (awayFromHome (homingAt .module false)).drawer.atEnd ≠ some .home
    ∧ (homingAt .escrow false).due = [] ∧ (homingAt .escrow false).envelope.held = false
    ∧ (homingAt .escrow true).due = [] ∧ (homingAt .escrow true).envelope.held = true := by decide

theorem witness_RequestsNeedTheirConsole :
    (Instr.payout att 100 0#8).sender = some att
    ∧ (serving .failed).takes att = false
    ∧ (Instr.payout other 100 0#8).sender = some other ∧ opened.takes other = true
    ∧ (Instr.payout other 100 0#8).attendingOnly = some 5 ∧ opened.settings.attending ≠ some other.source
    ∧ (Instr.resume att).sender = some att ∧ opened.takes att = true
    ∧ (Instr.resume att).supervisorOnly = some 18 ∧ opened.settings.supervisor ≠ some att.source := by decide

/-- A record is being programmed. -/
def programming : State :=
  ⟨[.journalLineAnswer none], { opened with journal := { opened.journal with
    queue := [{ record := .resume, seconds := 1#32, reserved := false }], headSequence := some 2
    op := some (.programSlot 1) } }⟩

theorem witness_StepKeepsCartridgeCanonical :
    programming.lane.cellsInv ∧ runs programming = true := by
  exact ⟨by unfold Lane.cellsInv; decide, by decide +kernel⟩

theorem witness_StepNeverSetsCartridgeBits :
    programming.lane.cellsInv
    ∧ (∀ cells q, programming.pending ≠ .cartridgeInsertion (some cells) :: q)
    ∧ runs programming = true := by
  refine ⟨by unfold Lane.cellsInv; decide, ?_, by decide +kernel⟩
  intro cells q h
  cases h

theorem witness_StepKeepsTransmitQueueLimits :
    txInv (List.replicate 4 claimFrame ++ List.replicate 11 replyFrame ++ [statusFrame])
    ∧ runs ⟨[.inventory att 5#8],
        sendingNow (List.replicate 4 claimFrame ++ List.replicate 7 replyFrame ++ [statusFrame])⟩ = true := by
  exact ⟨by unfold txInv; decide, by decide +kernel⟩

theorem witness_StepKeepsHoldTimerWithLocked :
    (withLock .locked).holdInv ∧ runs ⟨[.holdTimerExpiry], withLock .locked⟩ = true := by
  exact ⟨by unfold Lane.holdInv; decide, by decide +kernel⟩

/-- The drawer of a payout, at a position. -/
def drawerOut (l : Lane) : Lane :=
  { l with drawer := { l.drawer with
    position := .out, contents := .cash, owner := some ⟨.payout, 5⟩, lastOwnerTag := some 5
    presented := 1, tray := true, atEnd := some .out } }

theorem witness_StepKeepsDrawerPositionWithRun :
    (drawerOut (paying .presented)).drawerInv
    ∧ runs ⟨[.recall att], drawerOut (paying .presented)⟩ = true := by
  exact ⟨Or.inr (Or.inl rfl), by decide +kernel⟩

/-- The lane with its payout's cash held. -/
def holding (st : PayoutState) : Lane :=
  { paying st with ledgers := { opened.ledgers with cash := 100 } }

theorem witness_StepKeepsCashWithItsPayout :
    (holding .picking).cashInv ∧ (holding .picking).ledgers.cash = 100
    ∧ runs ⟨[.transportJam none], holding .picking⟩ = true := by
  exact ⟨Or.inr ⟨pay .picking, by decide⟩, by decide, by decide +kernel⟩

theorem witness_StepKeepsOpenLaneWithoutCause :
    opened.serviceInv ∧ opened.sup.service = .opened ∧ State.reset.lane.serviceInv
    ∧ State.reset.lane.sup.scanning = true
    ∧ runs ⟨[.tempHot], opened⟩ = true ∧ runs ⟨[.cartridgeRemoval], State.reset.lane⟩ = true := by
  exact ⟨by unfold Lane.serviceInv; decide, by decide, by unfold Lane.serviceInv; decide, by decide,
    by decide +kernel, by decide +kernel⟩

theorem witness_FailedAndOpenChangeByTheirCommandsAlone :
    (serving .failed).sup.service = .failed ∧ runs ⟨[.hitAgeing], serving .failed⟩ = true
    ∧ runs ⟨[.lineReset ⟨0, 2, true, true, 128#8⟩], serving .failed⟩ = true
    ∧ closed.sup.service ≠ .opened ∧ (after (.laneOpen sv) closed).sup.service = .opened := by decide +kernel

/-- The same by a LANE frame with action OPEN. -/
theorem witness_FailedAndOpenChangeByTheirCommandsAlone_frame :
    closed.sup.service ≠ .opened
    ∧ (after (.frameReceived (WireFrame.sent 1 9 19 0 5 [1#8, 0#8])) closed).sup.service = .opened
    ∧ (WireFrame.sent 1 9 19 0 5 [1#8, 0#8]).kind = 19
    ∧ (WireFrame.sent 1 9 19 0 5 [1#8, 0#8]).payload = [1#8, 0#8] := by decide +kernel

/-! ### Shared operations -/

theorem witness_TransmitQueueJoinRules_insert :
    (∀ g ∈ [lockFrame, replyFrame], g.cls ≤ replyFrame.cls) ∧ (∀ g ∈ [statusFrame], replyFrame.cls < g.cls) := by
  decide

theorem witness_TransmitQueueJoinRules_high :
    claimFrame.cls ≤ 1 ∧ (List.replicate 15 claimFrame).length < 16
    ∧ 16 ≤ (List.replicate 4 claimFrame ++ List.replicate 11 replyFrame ++ statusFrame :: []).length
    ∧ statusFrame.cls = 3 ∧ statusFrame.onLine = false
    ∧ 16 ≤ (List.replicate 15 claimFrame ++ replyFrame :: [onLine (.reply 11 .done .empty)]).length
    ∧ (∀ y ∈ List.replicate 15 claimFrame ++ replyFrame :: [onLine (.reply 11 .done .empty)],
        ¬(y.cls = 3 ∧ y.onLine = false))
    ∧ replyFrame.cls = 2 ∧ replyFrame.onLine = false
    ∧ (∀ y ∈ [onLine (.reply 11 .done .empty)], ¬(y.cls = 2 ∧ y.onLine = false))
    ∧ 16 ≤ (List.replicate 16 claimFrame).length
    ∧ (∀ y ∈ List.replicate 16 claimFrame, ¬(y.cls = 3 ∧ y.onLine = false))
    ∧ (∀ y ∈ List.replicate 16 claimFrame, ¬(y.cls = 2 ∧ y.onLine = false)) := by decide

theorem witness_TransmitQueueJoinRules_low :
    replyFrame.cls = 2
    ∧ (txLow (List.replicate 11 replyFrame) < 12 ∧ (List.replicate 11 replyFrame).length < 16)
    ∧ ¬(txLow (List.replicate 11 replyFrame ++ statusFrame :: []) < 12
        ∧ (List.replicate 11 replyFrame ++ statusFrame :: []).length < 16)
    ∧ ¬(txLow (List.replicate 12 replyFrame) < 12 ∧ (List.replicate 12 replyFrame).length < 16)
    ∧ (∀ y ∈ List.replicate 12 replyFrame, ¬(y.cls = 3 ∧ y.onLine = false))
    ∧ statusFrame.cls = 3 ∧ (∀ y ∈ List.replicate 11 replyFrame, y.cls ≠ 3)
    ∧ (∀ y ∈ List.replicate 12 replyFrame, y.cls ≠ 3)
    ∧ (onLine (.status none)).cls = 3 := by decide

theorem witness_CommandSwitchesItsDriver :
    ((opened.command .shutter true).driver .shutter).output ≠ (opened.driver .shutter).output
    ∧ ((opened.command .shutter false).driver .shutter).output = (opened.driver .shutter).output
    ∧ Driver.strobe ≠ Driver.shutter := by decide

theorem witness_ReservationsKeepTheReserve :
    opened.journal.state = .ready ∧ opened.journal.free ≤ opened.journal.free
    ∧ (opened.journal.withReserved opened.journal.free).state = .full := by decide

theorem witness_ProgrammingGivesTheAnd :
    Memory.wf [(3, 0#8), (15, 0x7F#8), (16, 0#8)] = true ∧ 15 < 16 ∧ (16 < 0 * 256 + 0 * 16 ∨ 0 * 256 + 0 * 16 + 16 ≤ 16) := by
  decide

/-! ### Resets, start-up and the lane supervisor -/

/-- The lane with a number of notes in its bin. -/
def binAt (n : Nat) (l : Lane) : Lane := { l with cass := { l.cass with bin := { l.cass.bin with count := n } } }

/-- A lane whose cartridge is away. -/
def without (l : Lane) : Lane := { l with journal := { l.journal with present := false } }

/-- A lane in STARTING, scanning or homing. -/
def starting (scanning : Bool) : Lane :=
  { serving .starting with sup := { (serving .starting).sup with
    scanning := scanning, homing := { Homing.idle with running := !scanning } } }

theorem witness_ResetsClearEveryBlock :
    closed.fromSupervisor sv = true ∧ closed.sup.service = .closed
    ∧ opened.fromSupervisor sv = true ∧ opened.sup.service ≠ .closed
    ∧ (starting true).journal.op = none := by decide

/-- Step 1 that fails leaves FAILED; a failing step 4 raises CONVERTER (R188, R189, R146). -/
theorem test_reset_self_test :
    (after (.powerReset ⟨0, 2, false, true, 128#8⟩) opened).sup.service = .failed
    ∧ (after (.lineReset ⟨0, 2, true, true, 123#8⟩) opened).sup.causes.converter = true
    ∧ (after (.lineReset ⟨0, 2, true, true, 124#8⟩) opened).sup.causes.converter = false
    ∧ (after (.restart sv ⟨3, 8, true, true, 132#8⟩) closed).sup.lane = 3 := by decide +kernel

/-- A replayed entry of a record. -/
def entryOf (sequence : Nat) (r : Record) : ScanEntry := ⟨0, 1, .good, encodeRecord 0 1 0 sequence 5#32 r⟩

/-- Records whose fields no rule can have written are unreadable: a PURGE START of none, a KEPT of none or of more
value than 40 notes of 1,000 (R75, R190, R197). -/
theorem test_record_outside_its_range :
    ScanEntry.unreadable (entryOf 1 (.purge .start (Four.replicate 0) 0)) = true
    ∧ ScanEntry.unreadable (entryOf 1 (.purge .jam (Four.replicate 0) 0)) = false
    ∧ ScanEntry.unreadable (entryOf 1 (.kept (Four.replicate 0) 0 0)) = true
    ∧ ScanEntry.unreadable (entryOf 1 (.kept ⟨0, 0, 40, 0⟩ 40000 0)) = false
    ∧ ScanEntry.unreadable (entryOf 1 (.kept ⟨0, 0, 40, 0⟩ 40001 0)) = true
    ∧ ScanEntry.unreadable (entryOf 1 (.kept ⟨0, 40, 1, 0⟩ 0 0)) = true
    ∧ ScanEntry.unreadable (entryOf 1 (.pick 5 100 (Four.replicate 0))) = true := by decide +kernel

theorem witness_ScanEndsWithOrWithoutReplay_replay :
    let es := [entryOf 1 (.restock (some 1) (some 20) 9), entryOf 2 (.pick 5 40 ⟨0, 2, 0, 0⟩)]
    (∀ e ∈ es, e.anchors 0 = false)
    ∧ es = [] ++ entryOf 1 (.restock (some 1) (some 20) 9) :: [entryOf 2 (.pick 5 40 ⟨0, 2, 0, 0⟩)]
    ∧ (entryOf 1 (.restock (some 1) (some 20) 9)).record? = some (.restock (some 1) (some 20) 9)
    ∧ (∀ e ∈ [entryOf 2 (.pick 5 40 ⟨0, 2, 0, 0⟩)], e.anchors 1 = false)
    ∧ ((replay es false).entry.get 1).suspect = true ∧ ((replay es false).entry.get 1).count = 9 := by
  decide +kernel

/-- A cartridge whose primary page 0 is open, a RESUME record in its slot 1. -/
def onePage : List Host.Cell :=
  Memory.program (Memory.program [] 0 0 (headerOpen 1)) 0 1 (encodeRecord 0 1 0 1 5#32 .resume)

/-- One whose page 0 is RETIRED to spare 3968, not yet opened. -/
def redirected : List Host.Cell :=
  Memory.program (Memory.program [] 0 0 (headerOpen 1)) 0 0 (headerRetired (some 3968))

/-- The starting lane with a cartridge. -/
def scanningOf (cells : List Host.Cell) : Lane :=
  { opened with
    sup := { opened.sup with service := .starting, scanning := true }
    journal := { opened.journal with cells := cells, writePage := none } }

theorem witness_ScanEndsWithOrWithoutReplay_order :
    (scanningOf onePage).cellsInv ∧ LogicalOrder onePage [0] ⟨some 0, none, 1⟩
    ∧ (scanningOf redirected).cellsInv ∧ LogicalOrder redirected [0] ⟨none, some 3968, 1⟩
    ∧ LogicalOrder [] [] ⟨none, none, 0⟩ := by
  refine ⟨by unfold Lane.cellsInv; decide +kernel, ⟨.endsInOpen 0 0 ?_ ?_, by decide, by decide⟩,
    by unfold Lane.cellsInv; decide +kernel,
    ⟨.redirect 0 0 3968 [] _ ?_ (.endsBeforeFreshSpare 3968 0 ?_ (by decide)), by decide, by decide⟩,
    ⟨.endsBeforeFresh 0 ?_, by decide, by decide⟩⟩ <;> decide +kernel

theorem witness_ScanEndsWithOrWithoutReplay :
    opened.sup.scanning = false ∧ (starting true).sup.scanning = true
    ∧ (starting true).journal.present = true ∧ (without (starting true)).journal.present = false := by decide

/-- A cartridge whose primary page 0 is OPEN and full, every record slot damaged, and which ends there. -/
def fullPage : List Host.Cell :=
  Memory.program [] 0 0 (headerOpen 1) ++ (List.range 15).map (fun s => (16 * (s + 1), 0#8))

theorem witness_ScanEndsWithOrWithoutReplay_seal :
    (scanningOf fullPage).cellsInv ∧ LogicalOrder fullPage [0] ⟨none, none, 1⟩
    ∧ pageKind fullPage 0 = .opened ∧ pageFull fullPage 0 = true
    ∧ (∀ p, p ∈ [0] → pageKind fullPage p = .opened ∧ pageFull fullPage p = true → 16 < p * 256 ∨ p * 256 + 16 ≤ 16)
    ∧ Memory.read fullPage 16 ≠ Memory.read [] 16 := by
  refine ⟨by unfold Lane.cellsInv; decide +kernel,
    ⟨.next 0 0 [] _ (.inr (.inr (.inr (.inr ⟨?_, ?_⟩)))) (by decide) (.endsBeforeFresh 1 ?_), by decide, by decide⟩,
    ?_, ?_, ?_, ?_⟩ <;> decide +kernel

/-- A start without a cartridge takes the bin as holding 400 notes and 5,000 places (R98, R189). -/
theorem test_scan_without_cartridge :
    (after .journalScanComplete (without (starting true))).cass.bin.count = 400
    ∧ (after .journalScanComplete (without (starting true))).ledgers.places = 5000
    ∧ (after .journalScanComplete State.reset.lane).journal.free = 59520 := by decide +kernel

/-- A lane in homing with a number of records queued. -/
def homingQueue (n : Nat) (l : Lane) : Lane :=
  { l with journal := { l.journal with
      queue := List.replicate n { record := .resume, seconds := 0#32, reserved := false } } }

theorem witness_HomingEndsInSetup :
    let l := homingQueue 15 (homingAt .envelope false)
    l.sup.service = .starting ∧ l.sup.homing.running = true ∧ l.sup.homing.step = .envelope
    ∧ l.envelope.dropTimer = none ∧ l.envelope.held = false ∧ l.drawer.movement ≠ some .homing
    ∧ l.drawer.counting = false ∧ l.journal.queue.length + l.heldSlots + l.startRecords.length = 16
    ∧ (homingQueue 11 (homingAt .module true)).journal.queue.length
        + (homingQueue 11 (homingAt .module true)).heldSlots + 5
        + (homingQueue 11 (homingAt .module true)).lockdown.heldRecords.length = 16
    ∧ (homingAt .module true).sup.homing.envelope = none ∧ (homingAt .module true).envelope.held = true
    ∧ (homingAt .module true).envelope.dropTimer = none := by decide

/-- Homing ends in SETUP; an envelope left in the mechanism takes a place (R98, R190). A bin refusal in step 1 goes
on to the drawer's run with the module's cause alone (R190). -/
theorem test_homing_ends_in_setup :
    (after .homingComplete (starting false)).sup.service = .setup
    ∧ (after .homingComplete (homingAt .module true)).ledgers.places = 1
    ∧ (after (.binNoteDelivery .stacker) (binAt 400 (awayFromHome (homingAt .module false)))).drawer.movement = some .homing
    ∧ (after (.binNoteDelivery .stacker) (binAt 400 (awayFromHome (homingAt .module false)))).sup.causes.purgeDrawer
        = false := by
  decide +kernel

/-- SETUP with the checks of R193 to pass: consoles 8 and 9 pending, setup console 9. -/
def inSetup (p : Settings) : Lane :=
  { serving .setup with
    sup := { (serving .setup).sup with setupConsole := some 9, pending := p }
    ledgers := { opened.ledgers with peer := Peer.table 0 2 } }

/-- Pending settings that pass. -/
def passing : Settings := { Settings.defaults with attending := some 8, supervisor := some 9 }

theorem witness_SetupHoldsOneItemWithinItsRange :
    opened.takes sv = true ∧ answers (.setup sv 0#8 0#8 0#32) opened = [.state]
    ∧ (inSetup passing).takes att = true ∧ answers (.setup att 0#8 0#8 0#32) (inSetup passing) = [.notPermitted]
    ∧ answers (.setup sv 26#8 0#8 0#32) (inSetup passing) = [.malformed]
    ∧ answers (.setup sv 23#8 0#8 7#32) (inSetup passing) = [.malformed]
    ∧ answers (.setup sv 25#8 0#8 7#32) (inSetup passing) = [.done]
    ∧ (after (.setup sv 25#8 0#8 7#32) (inSetup passing)).sup.wallBase = some (7, 100000) := by decide +kernel

theorem test_setup_ranges :
    (passing.withItem 0 0 999).map (·.wall) = some 1000 ∧ (passing.withItem 0 0 500001).map (·.wall) = some 500000
    ∧ (passing.withItem 1 0 99).map (·.cap) = some 100 ∧ (passing.withItem 9 0 9).map (·.vibration) = some 8
    ∧ (passing.withItem 15 3 2501).map (fun s => (s.position.get 3).lowMark) = some 2500
    ∧ passing.withItem 13 4 20 = none ∧ passing.withItem 17 0 6 = none ∧ passing.withItem 23 0 15 = none
    ∧ passing.withItem 16 8 20 = none ∧ (passing.withItem 16 7 20).isSome = true ∧ passing.withItem 19 7 4 = none
    ∧ passing.withItem 21 1 0 = none ∧ passing.withItem 26 0 0 = none ∧ passing.withItem 12 0 4 = none
    ∧ (passing.withItem 20 7 0).map (fun s => s.diagnostics.get 7) = some true := by decide

theorem witness_SetupDoneChecksAndApplies :
    opened.takes sv = true ∧ opened.sup.service ≠ .setup
    ∧ (inSetup passing).takes att = true ∧ (inSetup passing).sup.service = .setup
    ∧ (inSetup passing).sup.setupConsole ≠ some att.source ∧ (inSetup passing).takes sv = true
    ∧ (inSetup passing).sup.setupConsole = some sv.source ∧ (inSetup passing).sup.pending.failedCheck = none
    ∧ ((inSetup passing).ledgers.peer.get 1).state = .unknown
    ∧ { passing with wall := 4999 }.failedCheck = some 1
    ∧ { passing with supervisor := none }.failedCheck = some 6 := by decide

/-- Pending settings with a DISPENSE and a DEPOSIT cassette, and what replay left of both. -/
def passingCash : Settings :=
  { passing with position := (passing.position.set 0 ⟨.dispense, some 100, 2000, 10⟩).set 2 ⟨.deposit, none, 2000, 10⟩ }
def replayed : Lane :=
  let l := inSetup passingCash
  { l with cass := { l.cass with
      present := ⟨true, true, false, true⟩
      replay := ⟨⟨true, 5, some 100, some 1, [], false⟩, ⟨true, 5, some 20, none, [], false⟩,
        ⟨true, 5, none, some 2, [⟨⟨0, 0, 1, 0⟩, 50, 0⟩], false⟩, ⟨false, 0, none, none, [], true⟩⟩ } }

theorem witness_SetupDoneChecksAndApplies_positions :
    replayed.takes sv = true ∧ replayed.sup.service = .setup ∧ replayed.sup.setupConsole = some sv.source
    ∧ replayed.sup.pending.failedCheck = none ∧ (replayed.sup.pending.position.get 1).mode = .unused
    ∧ (replayed.sup.pending.position.get 0).mode ≠ .unused
    ∧ (replayed.cass.replay.get 0).suspect = false ∧ 5 ≤ 2000 ∧ replayed.cass.present.get 0 = true
    ∧ replayed.cass.present.get 2 = false
    ∧ ((after (.setupDone sv) replayed).cass.entry.get 0).state = .low
    ∧ ((after (.setupDone sv) replayed).cass.entry.get 2).state = .out
    ∧ ((after (.setupDone sv) replayed).cass.entry.get 2).value = some 50 := by decide +kernel

theorem test_setup_done_checks :
    { passing with position := passing.position.set 0 ⟨.dispense, none, 2000, 10⟩ }.failedCheck = some 2
    ∧ { passing with denominations := { passing.denominations with e0 := some 20, e7 := some 20 } }.failedCheck
        = some 3
    ∧ { passing with position := passing.position.set 0 ⟨.recycle, some 20, 2000, 10⟩ }.failedCheck = some 4
    ∧ { passing with safeLane := true }.failedCheck = some 5
    ∧ (after (.setupDone sv) (inSetup passing)).sup.service = .closed
    ∧ ((after (.setupDone sv) (inSetup passing)).ledgers.peer.get 1).deadline = some 116000 := by decide +kernel

/-- SETUP_DONE tells every position and the bin, a driver with a latched fault and the change of state, and answers
(R12, R143, R172, R193); both consoles are one here. -/
theorem test_setup_done_frames :
    let l := (inSetup { passing with attending := some 9 }).withDriver .strobe
      { opened.driver .strobe with latched := FaultSet.onlyHot }
    (after (.setupDone sv) l).bus.queue.map (·.body)
      = [.notice (.cassetteChange (some 0) (.inl .unused) none 0), .notice (.cassetteChange (some 1) (.inl .unused) none 0),
         .notice (.cassetteChange (some 2) (.inl .unused) none 0), .notice (.cassetteChange (some 3) (.inl .unused) none 0),
         .notice (.cassetteChange none (.inr .ok) none 0), .notice (.driverFault .strobe FaultSet.onlyHot FaultSet.none),
         .reply 24 .done .empty, .status none] := by decide +kernel

theorem witness_LaneOpensAndClosesOnRequest_open :
    (serving .setup).fromSupervisor sv = true ∧ answers (.laneOpen sv) (serving .setup) = [.state]
    ∧ answers (.laneOpen sv) (withLock .releasable) = [.locked]
    ∧ answers (.laneOpen sv) { closed with sup := { closed.sup with causes := { Causes.none with drawer := true } } }
        = [.unavailable]
    ∧ opened.fromSupervisor sv = true ∧ answers (.laneOpen sv) opened = [.done]
    ∧ closed.fromSupervisor sv = true ∧ (after (.laneOpen sv) closed).sup.service = .opened
    ∧ closed.drivers.lampHold = none
    ∧ ({ closed with drivers := { closed.drivers with lampHold := some 100500 } } : Lane).fromSupervisor sv = true := by
  decide +kernel

theorem witness_LaneOpensAndClosesOnRequest_close :
    opened.fromSupervisor sv = true ∧ opened.sup.service = .opened
    ∧ (posting .staged false).envelope.path = .staged
    ∧ (∀ r, (posting .staged false).envelope.record = some r → r.abandoned = false)
    ∧ (posting .opened false).envelope.path = .opened ∧ (posting .opened false).envelope.record.isSome = true
    ∧ (posting .claiming false).envelope.path = .claiming
    ∧ (posting .claiming false).envelope.record.map (·.abandoned) = some false
    ∧ (posting .capturing false).envelope.path = .capturing
    ∧ closed.fromSupervisor sv = true ∧ closed.sup.service = .closed
    ∧ (serving .setup).fromSupervisor sv = true ∧ (serving .setup).sup.service ≠ .opened
    ∧ (serving .setup).sup.service ≠ .closed := by
  refine ⟨by decide, by decide, by decide, ?_, by decide⟩
  intro r h
  cases h
  decide

/-- A close with a payout and a slot in progress: what the jobs queue, the STATUS, the REPLY; the lamp's hold runs from
the change (R55, R105, R148, R194). -/
theorem witness_LaneOpensAndClosesOnRequest_jobs :
    let l : Lane := { (posting .opened false).command .laneLamp true with payout := some (pay .staged) }
    l.fromSupervisor sv = true ∧ l.sup.service = .opened ∧ l.drivers.lampHold = none
    ∧ ({ l with drivers := { l.drivers with lampHold := some 100500 } } : Lane).drivers.lampHold.isSome = true
    ∧ (after (.laneClose sv) l).bus.queue.map (·.body)
        = [.release .place 1, .reply 5 .state .empty, .notice (.envelopeEnd .cancelled (some .closed) none),
           .reply 19 .done .empty, .status none]
    ∧ (after (.laneClose sv) l).drivers.lampHold = some 101000 := by decide +kernel

/-- A CLOSED lane whose drawer is JAMMED with a payout's cash, or RETAINED at HOME. -/
def jammed : Lane :=
  { closed with
    payout := some (pay .jammed)
    drawer := { opened.drawer with
      position := .jammed, contents := .cash, owner := some ⟨.payout, 5⟩, lastOwnerTag := some 5, presented := 3
      atEnd := none } }
def retained : Lane :=
  { closed with drawer := { opened.drawer with contents := .retained, lastOwnerTag := some 4, presented := 3, counted := 1 } }

theorem witness_ClearDrawerFlagTestsAndClears :
    jammed.fromSupervisor sv = true ∧ jammed.sup.service ≠ .opened
    ∧ answers (.laneClearDrawer sv .noAction) opened = [.state]
    ∧ answers (.laneClearDrawer sv .noAction) closed = [.state]
    ∧ answers (.laneClearDrawer sv .noAction)
        (jammed.withDriver .drawerIn { jammed.driver .drawerIn with latched := { FaultSet.none with openOn := true } })
        = [.unavailable]
    ∧ answers (.laneClearDrawer sv .noAction) { retained with journal := { retained.journal with state := .full } }
        = [.journal]
    ∧ jammed.drawer.atEnd ≠ some .home ∧ (after (.laneClearDrawer sv .noAction) jammed).drawer.movement = some .clear
    ∧ retained.drawer.owner = none ∧ retained.payout = none ∧ retained.intake = none
    ∧ answers (.laneClearDrawer sv .noAction) retained = [.done] := by decide +kernel

/-- A lane whose drawer is RETAINED and owned by none, with a bundle in its stacker. -/
def retainedWith (kind : BundleKind) (p : Option Payout) (i : Option Intake) : Lane :=
  { retained with payout := p, intake := i, transport := { retained.transport with stacker := ⟨kind, 2, 100⟩ } }

/-- RETAINED is cleared beside a payout or an intake (R61, R72, R83), and a CLOSE comes before the flag's tests
(R194). -/
theorem witness_ClearDrawerFlagTestsAndClears_jobs :
    let clear := fun l => after (.laneClearDrawer sv .noAction) l
    let bundled := retainedWith .cash (some (pay .bundled)) none
    let faulty := bundled.withDriver .drawerOut { bundled.driver .drawerOut with latched := { FaultSet.none with openOn := true } }
    let giving := retainedWith .returned none (some { deposit .givingBack with presentDeferred := true, escrow := [] })
    let held := { retained with intake := some (deposit .held) }
    let reopened := fun (l : Lane) => ({ l with sup := opened.sup } : Lane)
    bundled.drawer.owner = none ∧ bundled.drawer.atEnd ≠ some .out ∧ bundled.lockdown.state = .clear
    ∧ (clear bundled).payout.map (·.state) = some .presenting ∧ (clear bundled).drawer.movement = some .extend
    ∧ faulty.transport.stacker.notes ≠ 0
    ∧ (clear faulty).payout.map (fun p => (p.state, p.outcome)) = some (.purging, some .failedJam)
    ∧ (clear { bundled with lockdown := (withLock .locked).lockdown }).payout.map (·.outcome) = some (some .locked)
    ∧ (clear giving).drawer.owner = some ⟨.giveback, 5⟩ ∧ (clear giving).drawer.contents = .returned
    ∧ (clear held).intake = held.intake ∧ answers (.laneClearDrawer sv .noAction) held = [.done]
    ∧ (clear { bundled with drawer := { bundled.drawer with atEnd := some .out } }).drawer.position = .out
    ∧ (reopened retained).asClosed.sup.service = .closed
    ∧ (after (.laneClearDrawer sv .closeLane) (reopened retained)).sup.service = .closed
    ∧ (after (.laneClearDrawer sv .closeLane) (reopened retained)).drawer.contents = .empty
    ∧ (after (.laneClearDrawer sv .closeLane) (reopened jammed)).drawer.movement = some .clear
    ∧ answers (.laneClearDrawer sv .closeLane) opened = [.state] := by decide +kernel

/-- DRAWER_CLEARED carries the last owner's tag and presented less counted (R72). -/
theorem test_clear_drawer_record :
    ((after (.laneClearDrawer sv .closeLane) retained).journal.queue.map (·.record)) = [.drawerCleared (some 4) 2]
    ∧ answers (.laneClearDrawer sv .openLane) retained = [.malformed]
    ∧ answers (.laneNone sv) retained = [.done] := by decide +kernel

/-- A CLOSED lane in a TEST run. -/
def testing : Lane := { closed with sup := { closed.sup with testRun := some 6 } }

/-- A driver the off-state check finds failing. -/
def shorted : Lane :=
  testing.withDriver .imprint { testing.driver .imprint with stage := { FaultSet.none with shortSupply := true } }

theorem witness_TestRunsItsStepsInOrder :
    opened.fromSupervisor sv = true ∧ answers (.test sv) opened = [.state]
    ∧ answers (.test sv) { closed with payout := some (pay .jammed) } = [.busy]
    ∧ closed.fromSupervisor sv = true ∧ answers (.test sv) closed = [.accepted]
    ∧ closed.sup.testRun = none ∧ testing.sup.testRun = some 6
    ∧ (after (.testComplete 128#8) shorted).sup.driverTest.get Driver.imprint.index = true
    ∧ (∀ d : Fin 8, (after (.testComplete 123#8) testing).sup.driverTest.get d = false)
    ∧ ¬(124 ≤ (123#8).toNat ∧ (123#8).toNat ≤ 132) ∧ (124 ≤ (124#8).toNat ∧ (124#8).toNat ≤ 132)
    ∧ ¬(124 ≤ (133#8).toNat ∧ (133#8).toNat ≤ 132) ∧ (124 ≤ (132#8).toNat ∧ (132#8).toNat ≤ 132)
    ∧ testing.journal.present = true ∧ testing.sup.testFault = false ∧ testing.sup.service ≠ .opened
    ∧ ({ testing with sup := { testing.sup with testFault := true } } : Lane).sup.testFault = true
    ∧ (without testing).journal.present = false := by decide +kernel

theorem witness_TestRunsItsStepsInOrder_frames :
    shorted.sup.service ≠ .opened ∧ shorted.envelope.record = none ∧ shorted.sup.testRun = some 6
    ∧ testing.envelope.record = none ∧ testing.journal.op = none ∧ testing.journal.queue = []
    ∧ (without testing).journal.op = none ∧ (without testing).sup.testRun = some 6 := by decide +kernel

/-- A TEST whose cartridge shows RESUME 1 as its last record, the same record at the head of the queue (R130). -/
def rewritten : Lane :=
  { testing with journal := { testing.journal with
      cells := onePage, state := .fault, reserved := 1, headSequence := some 1
      queue := [{ record := .resume, seconds := 5, reserved := true }] } }

theorem witness_TestRunsItsStepsInOrder_rescan :
    rewritten.sup.testRun = some 6 ∧ rewritten.envelope.record = none ∧ rewritten.journal.op = none
    ∧ rewritten.journal.present = true ∧ rewritten.sup.testFault = false
    ∧ rewritten.journal.headSequence = some 1
    ∧ (let e : ScanEntry := ⟨0, 1, .good, encodeRecord 0 1 0 1 5#32 .resume⟩
       (walk true rewritten.journal.cells).lastWritten = some e ∧ slotSequence e.value = 1
       ∧ e.value.toNat / 2 ^ 124 = Record.resume.kindCode
       ∧ ((slotBitList e.value).drop 56).take 56 = Record.resume.payload)
    ∧ (∀ d : Fin 8, (after (.testComplete 128#8) rewritten).sup.driverTest.get d = false)
    ∧ (after (.testComplete 128#8) rewritten).journal.queue = []
    ∧ (after (.testComplete 128#8) rewritten).journal.reserved = 0
    ∧ (after (.testComplete 128#8) { rewritten with journal := { rewritten.journal with headSequence := some 2 } }).journal.queue.length
        = 1 := by decide +kernel

/-- A walk that leaves a number of free slots in its last page, RESUME 7 its last record. -/
def walkWith (free : Nat) : Walk where
  cells := []
  entries := [entryOf 7 .resume]
  writePage := some 3967
  nextSlot := 16 - free
  nextPrimary := 3968
  orderSpare := none
  lastSequence := 1
  priorSequence := 0

/-- The order of R130: the reserved slots are lowered to the free ones before the written head gives back its own,
and both states that follow are told: FULL at 9 free less 3 reserved, LOW at 9 less 2 (R123). -/
theorem test_rescan_lowers_before_the_head :
    (let l := { rewritten with journal := { rewritten.journal with headSequence := some 7, reserved := 3 } }
     (Lane.rescanned l (walkWith 2)).journal.reserved = 1
     ∧ (Lane.rescanned l (walkWith 9)).journal.reserved = 2
     ∧ (Lane.rescanned l (walkWith 9)).journal.state = .low
     ∧ (Lane.rescanned l (walkWith 9)).bus.queue.map (·.body)
        = [.notice (.journal .full 9), .notice (.journal .full 9), .notice (.journal .low 9), .notice (.journal .low 9)]) := by
  decide +kernel

/-- The result of a TEST is told to the supervisor console under the TEST's tag (R194). -/
theorem test_test_result :
    (after (.testComplete 128#8) shorted).bus.queue.getLast?.map (fun f => (f.body, f.dest, f.tag))
        = some (.notice (.testResult 3 false), 9, 6)
    ∧ (after (.testComplete 123#8) testing).bus.queue.map (·.body) = [.notice (.testResult 4 false)]
    ∧ (after (.testComplete 128#8) testing).bus.queue.getLast?.map (·.body)
        = some (.notice (.testResult 5 true)) := by decide +kernel

/-! ### Cassettes and the purge bin -/

theorem witness_InventoryReportsItsSelection :
    opened.takes other = true ∧ answers (.inventory other 5#8) opened = [.done]
    ∧ answers (.inventory other 6#8) opened = [.malformed]
    ∧ answers (.inventory other 0#8) (serving .setup) = [.state] := by decide +kernel

theorem witness_RestockTestsAndSetsCount :
    opened.fromSupervisor sv = true ∧ opened.sup.service ≠ .closed ∧ 4 < (5#8).toNat
    ∧ closed.fromSupervisor sv = true ∧ closed.sup.service = .closed ∧ (0#8).toNat = (0 : Position).val
    ∧ (3#8).toNat = (3 : Position).val ∧ (4#8).toNat = 4
    ∧ answers (.restock sv 3#8 0 0) closed = [.state]
    ∧ answers (.restock sv 0#8 5 100) { closed with intake := some (deposit .stopped) } = [.busy]
    ∧ answers (.restock sv 0#8 5 100) (after (.cassetteRemoval 0) closed) = [.unavailable]
    ∧ answers (.restock sv 0#8 2001 100) closed = [.range] ∧ answers (.restock sv 2#8 1 0) closed = [.range]
    ∧ answers (.restock sv 4#8 1 0) closed = [.range]
    ∧ answers (.restock sv 4#8 0 0) { closed with journal := { closed.journal with state := .fault } } = [.journal]
    ∧ answers (.restock sv 4#8 0 0) { closed with payout := some (pay .jammed) } = [.busy]
    ∧ answers (.restock sv 0#8 2000 100) closed = [.done] ∧ answers (.restock sv 4#8 0 0) closed = [.done] := by
  decide +kernel

/-- The count taken gives the state: 0 EMPTY, 10 LOW, 11 OK, the capacity FULL (R2, R13). -/
theorem test_restock_states :
    ((after (.restock sv 0#8 0 100) closed).cass.entry.get 0).state = .empty
    ∧ ((after (.restock sv 0#8 10 100) closed).cass.entry.get 0).state = .low
    ∧ ((after (.restock sv 0#8 11 100) closed).cass.entry.get 0).state = .ok
    ∧ ((after (.restock sv 0#8 2000 100) closed).cass.entry.get 0).state = .full := by decide +kernel

theorem witness_PresenceEventsMarkTheCassette :
    opened.payout = none ∧ opened.settled = true := by decide

/-- A payout of 100 that picks, with nothing in the path or the stacker yet. -/
def picks : Lane :=
  { opened with
    payout := some (pay .picking)
    ledgers := { opened.ledgers with cash := 100 }
    transport := { opened.transport with pickList := [⟨0, 1⟩] } }

/-- A removal loses the position of a payout's pick list; with an empty path the remix is asked (R10, R43). -/
theorem witness_PresenceEventsMarkTheCassette_lost :
    picks.settled = true ∧ picks.payout = some (pay .picking) ∧ (pay .picking).stackedValue ≠ (pay .picking).amount
    ∧ (after (.cassetteRemoval 0) picks).transport.halted = true
    ∧ (after (.cassetteRemoval 0) picks).transport.lost = some 0
    ∧ (after (.cassetteRemoval 0) picks).transport.remix = some (.mix ⟨[(1, 5)], false⟩) := by decide +kernel

theorem test_presence_events :
    ((after (.cassetteRemoval 0) opened).cass.entry.get 0).state = .out
    ∧ ((after (.cassetteRemoval 3) opened).cass.entry.get 3).state = .unused
    ∧ ((after (.cassetteInsertion 0) (after (.cassetteRemoval 0) opened)).cass.entry.get 0).state = .suspect := by
  decide +kernel

/-! ### Payouts -/

/-- The lane LOCKED, MUTE, with the drawer JAMMED, or its bin at a count. -/
def muted : Lane := { opened with bus := { opened.bus with mute := .clash } }
def isolatedLane : Lane := { opened with ledgers := { opened.ledgers with isolated := true } }
def drawerJammed : Lane := { opened with drawer := { opened.drawer with position := .jammed } }
def journalAs (s : JournalState) (l : Lane) : Lane := { l with journal := { l.journal with state := s } }

theorem witness_PayoutIsTestedStagedAndClaims_tests :
    opened.fromAttending att = true
    ∧ answers (.payout att 100 2#8) opened = [.malformed]
    ∧ answers (.payout att 100 0#8) closed = [.state]
    ∧ answers (.payout att 100 0#8) (withLock .releasable) = [.locked]
    ∧ answers (.payout att 100 0#8) muted = [.line] ∧ answers (.payout att 100 0#8) isolatedLane = [.line]
    ∧ answers (.payout att 100 0#8) (paying .presented) = [.busy]
    ∧ answers (.payout att 100 0#8) (depositing .held) = [.busy]
    ∧ answers (.payout att 0 0#8) opened = [.range] ∧ answers (.payout att 5001 0#8) opened = [.range]
    ∧ answers (.payout att 100 0#8) drawerJammed = [.unavailable]
    ∧ answers (.payout att 10 0#8) opened = [.noMix]
    ∧ answers (.payout att 100 0#8) (binAt 292 opened) = [.unavailable]
    ∧ answers (.payout att 100 0#8) (journalAs .full opened) = [.journal] := by decide +kernel

/-- The bin at which a payout of one note still has its room (R33). -/
def boundary : Lane := binAt 291 opened

theorem witness_PayoutIsTestedStagedAndClaims_staged :
    boundary.fromAttending att = true ∧ mixModeOf 0#8 = some .fewest ∧ mixModeOf 1#8 = some .spread
    ∧ boundary.sup.service = .opened ∧ boundary.lockdown.state = .clear ∧ boundary.bus.mute = .no
    ∧ boundary.ledgers.isolated = false ∧ boundary.intake = none ∧ 100 ≤ boundary.settings.cap
    ∧ boundary.payoutBarred = false
    ∧ firstMix boundary.cass.entry boundary.settings.cap 100 .fewest
        = .mix { picks := [(0, 1)], belowMark := false }
    ∧ ({ picks := [(0, 1)], belowMark := false } : Mix).total + 8
        = boundary.cass.bin.capacity - boundary.cass.bin.count
    ∧ boundary.bus.queue.length ≤ 8 ∧ boundary.payout = none ∧ boundary.canReserve 2 = true
    ∧ (paying .claiming).payout = some (pay .claiming) ∧ (paying .claiming).asSuperseded.canReserve 2 = true
    ∧ (paying .claiming).fromAttending att = true ∧ (paying .claiming).payoutBarred = false := by decide +kernel

/-- The cassette table of the worked cases of chapter 2. -/
def worked : Four Cassette :=
  ⟨cassette .dispense (some 100) 12 .ok, { cassette .dispense (some 50) 30 .ok with lowMark := 5 },
    { cassette .dispense (some 20) 200 .ok with lowMark := 20 },
    { cassette .recycle (some 20) 45 .ok with lowMark := 5 }⟩

/-- Cases 1 to 3 of chapter 2: 370 FEWEST, 370 SPREAD, and 60 with no 100s. -/
theorem test_worked_mix_cases :
    firstMix worked 5000 370 .fewest = .mix { picks := [(0, 3), (1, 1), (2, 1)], belowMark := false }
    ∧ firstMix worked 5000 370 .spread = .mix { picks := [(0, 2), (1, 3), (2, 1)], belowMark := false }
    ∧ firstMix (worked.set 0 { worked.get 0 with state := .fault }) 5000 60 .fewest
        = .mix { picks := [(2, 3)], belowMark := false } := by decide +kernel

theorem test_spread_goes_below_the_mark :
    firstMix (opened.cass.entry.set 0 (cassette .dispense (some 100) 10 .low)) 5000 100 .spread
        = .mix { picks := [(1, 5)], belowMark := false }
    ∧ firstMix (opened.cass.entry.set 0 (cassette .dispense (some 100) 12 .ok)) 5000 300 .spread
        = .mix { picks := [(0, 2), (1, 5)], belowMark := false }
    ∧ firstMix ⟨cassette .dispense (some 100) 10 .low, Cassette.afterReset, Cassette.afterReset, Cassette.afterReset⟩
        5000 100 .spread = .mix { picks := [(0, 1)], belowMark := true } := by decide +kernel

/-- A payout that picks, one note in the path and one wanted. -/
def picking : Lane :=
  { holding .picking with transport := { opened.transport with
    pickList := [⟨0, 2⟩], path := [⟨0, 1⟩], pickNumber := 1 } }

theorem witness_RecallActsByThePayoutsState :
    opened.fromAttending att = true ∧ (∀ p, opened.payout = some p → p.tag ≠ att.tag)
    ∧ (paying .purging).fromAttending att = true ∧ (pay .purging).tag = att.tag
    ∧ answers (.recall att) (paying .purging) = [.busy]
    ∧ answers (.recall att) { opened with payout := some { pay .presenting with recallPending := true } } = [.busy]
    ∧ (pay .presenting).recallPending = false ∧ answers (.recall att) (paying .presenting) = [.accepted]
    ∧ answers (.recall att) (paying .staged) = [.done, .state]
    ∧ picking.fromAttending att = true ∧ picking.transport.path ≠ []
    ∧ (drawerOut (paying .presented)).fromAttending att = true
    ∧ (drawerOut (paying .presented)).drawer.position = .out
    ∧ (drawerOut (paying .presented)).drawer.contents = .cash
    ∧ (drawerOut (paying .presented)).drawer.atEnd ≠ some .home := by
  refine ⟨by decide, ?_, by decide +kernel⟩
  intro p h
  cases h

/-- A payout in BUNDLED or PICKING with nothing in the path or the stacker: nothing to purge (R53, R56). -/
theorem witness_RecallActsByThePayoutsState_empty :
    picks.fromAttending att = true ∧ picks.transport.path = [] ∧ picks.transport.stacker.notes = 0
    ∧ (pay .picking).tag = att.tag ∧ (after (.recall att) picks).payout = none
    ∧ (after (.recall att) picks).bus.queue.map (·.body)
        = [.release .cash 100, .reply 6 .accepted .empty, .notice (.payoutFailed .recalled 0)] := by decide +kernel

/-- The lane whose CLAIM is on the line. -/
def claiming (b : TxBody) (abandoned : Bool) (l : Lane) : Lane :=
  { l with bus := { l.bus with queue := [{ onLine b with abandoned := abandoned }] } }

/-- The lane with a limit of the wall (and a cap) that leaves room for exactly 100 more, or for 99. -/
def wallOf (w : Nat) (l : Lane) : Lane := { l with settings := { l.settings with wall := w } }

theorem witness_CashClaimIsDecidedAtReadback :
    (claiming (.claim .cash 100) true opened).settled = true
    ∧ (claiming (.claim .cash 100) true opened).onLine?
        = some { onLine (.claim .cash 100) with abandoned := true }
    ∧ (claiming (.claim .cash 100) false (paying .claiming)).onLine? = some (onLine (.claim .cash 100))
    ∧ (pay .claiming).mix.picks = [(0, 1)] ∧ (opened.cass.entry.get 0).eligible = true
    ∧ (wallOf 100 opened).ledgers.cash + 100 + 0 ≤ (wallOf 100 opened).wallEff
    ∧ answers .cashClaimReadback (claiming (.claim .cash 100) false (wallOf 100 (paying .claiming))) = [.accepted]
    ∧ (after .cashClaimReadback (claiming (.claim .cash 100) false (wallOf 100 (paying .claiming)))).ledgers.cash = 100
    ∧ (after .cashClaimReadback (claiming (.claim .cash 100) false (wallOf 99 (paying .claiming)))).payout = none := by
  decide +kernel

/-- A position of the mix is no longer eligible as its payout is admitted: the picks are halted at once (R39, R43). -/
theorem witness_CashClaimIsDecidedAtReadback_lost :
    let l := after (.cassetteRemoval 0) (claiming (.claim .cash 100) false (paying .claiming))
    l.settled = true ∧ l.onLine? = some (onLine (.claim .cash 100)) ∧ l.payout = some (pay .claiming)
    ∧ (l.cass.entry.get 0).eligible = false ∧ l.transport.path = []
    ∧ (pay .claiming).stackedValue ≠ (pay .claiming).amount
    ∧ (after .cashClaimReadback l).transport.lost = some 0
    ∧ (after .cashClaimReadback l).transport.remix = some (.mix ⟨[(1, 5)], false⟩) := by decide +kernel

theorem witness_PickTakesFromFirstWantingEntry :
    picking.payout = some (pay .picking)
    ∧ ({ picking with transport := { picking.transport with halted := true } } : Lane).transport.halted = true
    ∧ picking.transport.halted = false ∧ picking.transport.path.length < 4
    ∧ picking.transport.pickList.find? (fun e => decide
        ((picking.transport.path.filter (fun n => n.position == e.position)).length < e.quota)) = some ⟨0, 2⟩
    ∧ (cassette .dispense (some 100) 1 .low).count = 1 ∧ (cassette .dispense (some 100) 1 .low).mode ≠ .unused := by
  decide

/-- A pick takes a cassette down to its low mark, which is told and halts nothing, or to 0, which halts the picks
(R2, R12, R43). -/
theorem test_pick_moves_the_state :
    let low := after .pick { picks with cass := { picks.cass with
      entry := picks.cass.entry.set 0 (cassette .dispense (some 100) 11 .ok) } }
    let none_ := after .pick { picks with cass := { picks.cass with
      entry := picks.cass.entry.set 0 (cassette .dispense (some 100) 1 .low) } }
    (low.cass.entry.get 0).state = .low ∧ low.transport.halted = false
    ∧ low.bus.queue.map (·.body) = [.notice (.cassetteChange (some 0) (.inl .low) none 10),
        .notice (.cassetteChange (some 0) (.inl .low) none 10)]
    ∧ (none_.cass.entry.get 0).state = .empty ∧ none_.transport.halted = true ∧ none_.transport.lost = some 0 := by
  decide +kernel

/-- Two notes in the path of a payout that picks; its bad run or diverted count as given. -/
def checking (st : PayoutState) (run diverted : Nat) : Lane :=
  { holding st with
    payout := some { pay st with diverted := diverted }
    cass := { opened.cass with
      entry := opened.cass.entry.set 0 { cassette .dispense (some 100) 48 .ok with badRun := run } }
    transport := { opened.transport with pickList := [⟨0, 2⟩], path := [⟨0, 1⟩, ⟨0, 2⟩], pickNumber := 2 } }

theorem witness_CheckResultMovesOldestNote :
    (checking .picking 2 7).settled = true ∧ (checking .picking 2 7).payout = some { pay .picking with diverted := 7 }
    ∧ (checking .purging 0 7).payout = some { pay .purging with diverted := 7 }
    ∧ (checking .picking 2 7).transport.path = ⟨0, 1⟩ :: [⟨0, 2⟩]
    ∧ (checking .picking 2 7).binRoom = true ∧ (checking .picking 2 8).binRoom = true
    ∧ ((checking .picking 2 7).cass.entry.get 0).badRun = 2
    ∧ ((checking .picking 2 7).cass.entry.get 0).state = .ok
    ∧ (checking .picking 0 6).cass.bin.count + 1 < (checking .picking 0 6).cass.bin.capacity
    ∧ (checking .picking 0 6).sup.service ≠ .starting := by decide +kernel

/-- The lane of two notes, its cassette in another state. -/
def checkingOf (c : Cassette) : Lane :=
  let l := checking .picking 0 6
  { l with cass := { l.cass with entry := l.cass.entry.set 0 c } }

theorem witness_CheckResultMovesOldestNote_held :
    (checkingOf { cassette .dispense (some 100) 48 .suspect with badRun := 3 }).settled = true
    ∧ ((checkingOf { cassette .dispense (some 100) 48 .suspect with badRun := 3 }).cass.entry.get 0).state = .suspect
    ∧ ¬(((checkingOf { cassette .dispense (some 100) 48 .suspect with badRun := 3 }).cass.entry.get 0).badRun < 3)
    ∧ ((after (.checkResult .good) (checkingOf { cassette .dispense (some 100) 48 .suspect with badRun := 3 })).cass.entry.get 0).badRun
        = 3
    ∧ ((checkingOf (cassette .dispense (some 100) 0 .empty)).cass.entry.get 0).count = 0
    ∧ ((after (.checkResult .double) (checkingOf (cassette .dispense (some 100) 0 .empty))).cass.entry.get 0).state
        = .suspect := by decide +kernel

theorem witness_CheckResultMovesOldestNote_bin :
    (binAt 300 (checking .picking 0 6)).settled = true ∧ (binAt 300 (checking .picking 0 6)).binRoom = false
    ∧ (binAt 300 (checking .purging 0 9)).binRoom = false
    ∧ (binAt 299 (checking .picking 0 6)).sup.service ≠ .starting
    ∧ (binAt 299 (checking .picking 0 6)).cass.bin.count + 1 = (binAt 299 (checking .picking 0 6)).cass.bin.capacity
    ∧ (binAt 299 (checking .picking 0 6)).envelope.record = none
    ∧ (binAt 0 (checking .picking 0 7)).cass.bin.count + 1 < (binAt 0 (checking .picking 0 7)).cass.bin.capacity
    ∧ (checking .picking 0 7).payout.map (·.diverted) = some 7 ∧ (checking .purging 0 9).binRoom = true
    ∧ [(⟨0, 2⟩ : PathNote)] ≠ [] := by decide +kernel

/-- The lane with one note left in the path. -/
def lastChecked (st : PayoutState) (diverted stacked : Nat) : Lane :=
  let l := checking st 0 diverted
  { l with
    payout := some { pay st with amount := 200, diverted := diverted }
    transport := { l.transport with path := [⟨0, 2⟩], stacker := ⟨if stacked = 0 then .empty else .cash, stacked, 0⟩ } }

/-- A result that empties the path: short of its quotas the payout picks on; with a position lost it asks for a remix;
with the limit crossed or a purge that has nothing left it is over (R41, R42, R43, R46). -/
theorem witness_CheckResultMovesOldestNote_last :
    (lastChecked .picking 0 0).settled = true ∧ (lastChecked .picking 0 0).transport.path = ⟨0, 2⟩ :: []
    ∧ (after .checkMiss (lastChecked .picking 0 0)).transport.halted = false
    ∧ (after .checkMiss (lastChecked .picking 0 0)).transport.pickList = [⟨0, 2⟩]
    ∧ (let l := lastChecked .picking 0 0
       let m := after .checkMiss { l with cass := { l.cass with
         entry := l.cass.entry.set 0 { cassette .dispense (some 100) 48 .ok with badRun := 2 } } }
       m.transport.lost = some 0 ∧ m.transport.remix = some (.mix ⟨[(1, 10)], false⟩))
    ∧ (lastChecked .purging 0 0).transport.stacker.notes = 0 ∧ (lastChecked .purging 0 3).transport.stacker.notes = 3
    ∧ (after .checkMiss (lastChecked .purging 0 0)).payout = none
    ∧ (after .checkMiss (lastChecked .purging 0 3)).payout.map (·.state) = some .purging
    ∧ (lastChecked .picking 8 0).payout.map (·.diverted) = some 8
    ∧ (after (.checkResult .reject) (lastChecked .picking 8 0)).journal.queue.map (·.record)
        = [.purge .rejects ⟨1, 0, 0, 0⟩ 1] := by decide +kernel

/-- A MISS that takes a cassette from its low mark, and a DOUBLE to it, move the derived state (R2, R3). -/
theorem test_results_move_the_state :
    ((after .checkMiss (checkingOf (cassette .dispense (some 100) 10 .low))).cass.entry.get 0).state = .ok
    ∧ ((after (.checkResult .double) (checkingOf (cassette .dispense (some 100) 11 .ok))).cass.entry.get 0).state = .low := by
  decide +kernel

/-- A DOUBLE from 7 crosses the limit with both its notes in the bin; a bin with room for one of them, or for none,
ends the payout FAILED_REJECTS, or with the outcome it has, and closes the lane (R8, R42, R48). -/
theorem test_bin_refuses_a_divert :
    (after (.checkResult .double) (checking .picking 0 7)).payout.map (fun p => (p.state, p.diverted, p.binned))
        = some (.purging, 9, 2)
    ∧ (after (.checkResult .double) (binAt 299 (checking .picking 0 6))).journal.queue.map (·.record)
        = [.purge .rejects ⟨2, 0, 0, 0⟩ 1]
    ∧ (after (.checkResult .reject) (binAt 300 (checking .picking 0 6))).sup.service = .closed
    ∧ (after (.checkResult .reject) (let l := binAt 300 (checking .purging 0 6)
        { l with payout := some { pay .purging with outcome := some .recalled } })).journal.queue.map (·.record)
        = [.purge .recalled ⟨1, 0, 0, 0⟩ 0] := by decide +kernel

/-- The third bad pick faults the cassette; the ninth diverted note fails the payout (R4, R42). -/
theorem test_check_limits :
    ((after .checkMiss (checking .picking 2 0)).cass.entry.get 0).state = .fault
    ∧ ((after .checkMiss (checking .picking 1 0)).cass.entry.get 0).state = .ok
    ∧ (after (.checkResult .reject) (checking .picking 0 8)).payout.map (·.outcome) = some (some .failedRejects)
    ∧ (after (.checkResult .double) (checking .picking 0 6)).payout.map (·.diverted) = some 8 := by decide +kernel

/-- The last note of a payout is at the check station. -/
def lastNote : Lane :=
  { holding .picking with transport := { opened.transport with
    pickList := [⟨0, 1⟩], path := [⟨0, 1⟩], pickNumber := 1 } }

/-- A payout of 100 with one 20 stacked that waits for its remix. -/
def remixing (a : MixAnswer) (bin : Nat) : Lane :=
  binAt bin { holding .picking with
    payout := some { pay .picking with stackedNotes := 1, stackedValue := 20 }
    transport := { opened.transport with
      halted := true, lost := some 0, remix := some a, stacker := ⟨.cash, 1, 20⟩ } }

theorem witness_LastNotePresentsAndRemixResumes :
    lastNote.payout = some (pay .picking) ∧ lastNote.transport.path = [⟨0, 1⟩]
    ∧ lastNote.transport.halted = false ∧ lastNote.transport.pickList = [⟨0, 1⟩]
    ∧ lastNote.drawer.owner = none ∧ lastNote.drawer.position = .home ∧ lastNote.drawer.contents = .empty
    ∧ lastNote.drawer.movement = none ∧ lastNote.drawer.travel = none ∧ lastNote.drawer.atEnd ≠ some .out
    ∧ lastNote.latchedFault .drawerOut = false ∧ lastNote.latchedFault .drawerIn = false
    ∧ lastNote.lockdown.state = .clear
    ∧ (remixing (.mix ⟨[(1, 4)], false⟩) 287).settled = true
    ∧ (remixing (.mix ⟨[(1, 4)], false⟩) 287).transport.path = []
    ∧ (remixing (.mix ⟨[(1, 4)], false⟩) 287).transport.stacker.notes ≠ 0
    ∧ 1 + 4 + (8 - 0) ≤ 300 - 287 ∧ ¬(1 + 4 + (8 - 0) ≤ 300 - 288)
    ∧ (after .remixAnswer (remixing (.mix ⟨[(1, 4)], false⟩) 287)).payout.map (·.state) = some .picking
    ∧ (after .remixAnswer (remixing (.mix ⟨[(1, 4)], false⟩) 288)).payout.map (·.state) = some .purging
    ∧ (after .remixAnswer (remixing .noMix 0)).payout.map (·.outcome) = some (some .failedShort) := by
  decide +kernel

/-- The drawer's answers to the bundled payout, its quotas met or its amount stacked with picks halted; a remix with a
position no longer eligible, and one without a mix and with nothing stacked (R43, R44, R49, R61). -/
theorem witness_LastNotePresentsAndRemixResumes_answers :
    let drawn := fun (d : Drawer) => ({ lastNote with drawer := d } : Lane)
    let closing := { lastNote.drawer with position := Movement.close.position, movement := some .close, atEnd := none }
    let locked : Lane := { lastNote with lockdown := (withLock .releasable).lockdown }
    let halted : Lane := { lastNote with transport := { lastNote.transport with halted := true } }
    lastNote.settled = true ∧ (drawn closing).settled = true ∧ (drawn { lastNote.drawer with position := .jammed }).settled = true
    ∧ (after (.checkResult .good) (drawn closing)).drawer.waiting = true
    ∧ (after (.checkResult .good) (drawn closing)).payout.map (·.state) = some .bundled
    ∧ (after (.checkResult .good) (drawn { lastNote.drawer with contents := .retained })).payout.map (·.state) = some .bundled
    ∧ (after (.checkResult .good) (drawn { lastNote.drawer with position := .jammed })).payout.map (·.outcome)
        = some (some .failedJam)
    ∧ locked.settled = true ∧ (after (.checkResult .good) locked).payout.map (·.outcome) = some (some .locked)
    ∧ halted.settled = true ∧ 0 + 100 = (pay .picking).amount
    ∧ (after (.checkResult .good) halted).payout.map (·.state) = some .presenting := by decide +kernel

theorem witness_LastNotePresentsAndRemixResumes_remix :
    let l := remixing (.mix ⟨[(1, 4)], false⟩) 0
    let gone : Lane := { l with cass := { l.cass with entry := l.cass.entry.set 1 (cassette .recycle (some 20) 0 .empty) } }
    let bare : Lane := { remixing .noMix 0 with transport := { (remixing .noMix 0).transport with stacker := Bundle.empty } }
    gone.settled = true ∧ gone.transport.path = [] ∧ gone.transport.remix = some (.mix ⟨[(1, 4)], false⟩)
    ∧ (gone.cass.entry.get 1).eligible = false ∧ gone.payout.map (·.stackedValue) = some 20
    ∧ (after .remixAnswer gone).transport.lost = some 1 ∧ (after .remixAnswer gone).transport.remix.isSome = true
    ∧ bare.settled = true ∧ bare.transport.stacker.notes = 0 ∧ (after .remixAnswer bare).payout = none
    ∧ (after .remixAnswer bare).journal.queue.map (·.record) = [.purge .short ⟨1, 0, 0, 0⟩ 0] := by decide +kernel

/-- The first remix of the manual's kind: the lost position is left out of the search (R30, R43). -/
theorem test_remix_excludes_the_lost_position :
    remix opened.cass.entry 100 40 (some 0) = .mix { picks := [(1, 5)], belowMark := false }
    ∧ remix opened.cass.entry 100 4 (some 0) = .noMix := by decide +kernel

/-- A payout that purges with notes in its stacker. -/
def purging (notes : Nat) (bin : Nat) : Lane :=
  binAt bin { holding .purging with
    payout := some { pay .purging with outcome := some .recalled, stackedNotes := notes, stackedValue := 100 * notes }
    transport := { opened.transport with halted := true, stacker := ⟨.cash, notes, 100 * notes⟩ } }

/-- The tray being counted. -/
def counting (n bin : Nat) : Lane :=
  binAt bin { holding .retracting with drawer := { opened.drawer with
    contents := .cash, owner := some ⟨.payout, 5⟩, lastOwnerTag := some 5, presented := 3, counted := n, counting := true } }

/-- The drawer in a run, its sensor not yet reached. -/
def moving (m : Movement) (l : Lane) : Lane :=
  { l with drawer := { l.drawer with
    movement := some m, position := m.position, travel := some 104000, atEnd := none } }

theorem witness_JamsAndTheBinEndMoneyInMotion :
    picking.payout = some (pay .picking) ∧ picking.drawer.counting = false ∧ picking.sup.service ≠ .starting
    ∧ (purging 2 299).payout.map (·.state) = some .purging ∧ (purging 2 299).transport.path = []
    ∧ (purging 2 299).transport.stacker.notes = 2 ∧ (purging 2 299).binRoom = true
    ∧ (purging 1 299).transport.stacker.notes = 1 ∧ (purging 1 299).binRoom = true
    ∧ (purging 1 300).binRoom = false
    ∧ (counting 99 299).drawer.counting = true ∧ (counting 99 299).drawer.counted < 100
    ∧ (counting 99 299).binRoom = true ∧ (counting 99 300).binRoom = false
    ∧ (counting 99 299).homesIn .module = false := by decide +kernel

/-- The last note of the stacker ends the purge with its outcome (R46). -/
theorem test_last_note_ends_the_purge :
    (after (.binNoteDelivery .stacker) (purging 1 299)).payout = none
    ∧ (after (.binNoteDelivery .stacker) (purging 1 299)).journal.queue.map (·.record) = [.purge .recalled ⟨1, 0, 0, 0⟩ 1]
    ∧ (after (.binNoteDelivery .stacker) (purging 1 298)).bus.queue.map (·.body)
        = [.release .cash 100, .notice (.payoutFailed .recalled 1)]
    ∧ (after (.binNoteDelivery .stacker) (purging 1 298)).sup.service = .opened := by decide +kernel

theorem witness_JamsAndTheBinEndMoneyInMotion_intake :
    (depositing .feeding).payout = none ∧ (depositing .feeding).intake = some (deposit .feeding)
    ∧ (depositing .feeding).drawer.counting = false ∧ (depositing .feeding).sup.service ≠ .starting
    ∧ (deposit .keeping).state = .keeping ∧ (deposit .givingBack).state = .givingBack
    ∧ (deposit .givingBack).escrow ≠ [] ∧ (depositing .keeping).envelope.record = none
    ∧ (after (.transportJam none) (depositing .keeping)).intake.map (·.state) = some .stopped := by decide +kernel

/-- The tray of an intake's returns, or of a giveback, being counted. -/
def countingFor (k : OwnerKind) (st : IntakeState) (escrow : List EscrowNote) (n : Nat) : Lane :=
  { depositing st with
    intake := some { deposit st with escrow := escrow }
    drawer := { opened.drawer with
      contents := .returned, owner := some ⟨k, 5⟩, lastOwnerTag := some 5, presented := 3, counted := n
      counting := true } }

theorem witness_JamsAndTheBinEndMoneyInMotion_count :
    (counting 2 299).drawer.counting = true ∧ (counting 2 299).sup.service ≠ .starting
    ∧ (counting 99 300).drawer.counted < 100 ∧ (counting 99 300).binRoom = false
    ∧ (counting 2 299).drawer.owner = some ⟨.payout, 5⟩ ∧ (counting 2 299).payout = some (pay .retracting)
    ∧ (countingFor .intake .returning [] 0).payout = none ∧ (countingFor .intake .returning [] 0).intake.isSome = true
    ∧ (countingFor .intake .returning [] 0).drawer.owner = some ⟨.intake, 5⟩
    ∧ (countingFor .giveback .givingBack [] 2).drawer.owner = some ⟨.giveback, 5⟩
    ∧ (countingFor .giveback .givingBack [] 2).envelope.record = none := by decide +kernel

/-- A jam or a refusal in a count (R70, R89, R91): the payout has its RETRACT record; the returns are STOPPED after a
jam and HELD after a refusal. -/
theorem test_count_stops :
    (after (.transportJam none) (counting 2 299)).payout = none
    ∧ (after (.transportJam none) (counting 2 299)).drawer.contents = .retained
    ∧ (after (.transportJam none) (counting 2 299)).sup.causes.transportDrawer = true
    ∧ (after (.transportJam none) (counting 2 299)).journal.queue.map (·.record)
        = [.retract 5 3 2 ⟨1, 0, 0, 0⟩ 2]
    ∧ (after (.transportJam none) (countingFor .intake .returning [⟨0, true⟩] 2)).intake.map
        (fun i => (i.state, i.uncollected)) = some (.stopped, 2)
    ∧ (after (.binNoteDelivery .tray) (binAt 300 (countingFor .intake .returning [⟨0, true⟩] 2))).intake.map
        (·.state) = some .held
    ∧ (after (.transportJam none) (countingFor .giveback .givingBack [] 2)).intake = none
    ∧ (after (.transportJam none) (countingFor .giveback .givingBack [] 2)).journal.queue.map (·.record)
        = [.capture .uncollected 2] := by decide +kernel

theorem witness_JamsAndTheBinEndMoneyInMotion_homing :
    (homingAt .module false).sup.service = .starting ∧ (homingAt .module false).sup.homing.running = true
    ∧ (homingAt .module false).sup.homing.step = .module ∧ (binAt 299 (homingAt .module false)).binRoom = true
    ∧ (binAt 400 (awayFromHome (homingAt .module false))).binRoom = false
    ∧ (awayFromHome (homingAt .module false)).drawer.atEnd ≠ some .home
    ∧ (homingAt .module false).drawer.counting = false
    ∧ (homingAt .escrow false).sup.homing.step = .escrow ∧ (binAt 299 (homingAt .escrow false)).binRoom = true
    ∧ (binAt 400 (homingAt .escrow false)).binRoom = false ∧ (homingAt .escrow false).envelope.held = false
    ∧ (NoteSource.stacker ≠ .tray ∧ NoteSource.stacker ≠ .escrow)
    ∧ (homingAt .drawer false).sup.homing.step ≠ .module ∧ (homingAt .drawer false).homesIn .drawer = true
    ∧ (after (.binNoteDelivery .escrow) (binAt 299 (homingAt .escrow false))).sup.homing.escrowNotes = 1
    ∧ (moving .homing (homingAt .drawer false)).sup.homing.step = .drawer
    ∧ (moving .homing (homingAt .drawer false)).drawer.counting = false
    ∧ (moving .homing (homingAt .drawer false)).drawer.owner = none := by
  decide +kernel

/-- A jam in homing's step 2 before its count: the tray is RETAINED, the cause is the drawer's, and the run comes
home without a count (R59, R70, R188, R190). -/
theorem test_jam_stops_homing_step_2 :
    let l := after (.transportJam none) (moving .homing (homingAt .drawer false))
    l.sup.causes.transportDrawer = true ∧ l.sup.homing.step = .escrow ∧ l.drawer.contents = .retained
    ∧ (after (.endSensorArrival .home) l).drawer.position = .home
    ∧ (after (.endSensorArrival .home) l).drawer.counting = false := by decide +kernel

theorem test_jam_ends_the_payout :
    (after (.transportJam (some 0)) picking).sup.service = .closed
    ∧ ((after (.transportJam (some 0)) picking).cass.entry.get 0).cause = some .jam
    ∧ (after (.binNoteDelivery .stacker) (purging 1 299)).payout = none
    ∧ (after (.binNoteDelivery .tray) (counting 99 300)).drawer.contents = .retained := by decide +kernel

/-- A drawer that counts its tray for no transaction. -/
def unowned (l : Lane) : Lane := { l with drawer := { l.drawer with owner := none } }

/-- A jam with nothing in motion; a count that no transaction owns; deliveries that change nothing, and the count's
upper bound. -/
theorem witness_JamsAndTheBinEndMoneyInMotion_still :
    let bare := fun bin => unowned { binAt bin opened with drawer := (counting 2 bin).drawer }
    opened.payout = none ∧ opened.intake = none ∧ opened.drawer.counting = false ∧ opened.sup.service ≠ .starting
    ∧ ((after (.transportJam (some 0)) opened).cass.entry.get 0).state = .fault
    ∧ (after (.transportJam (some 0)) opened).sup.service = .opened
    ∧ (bare 300).drawer.owner = none ∧ (bare 300).drawer.counting = true ∧ (bare 300).drawer.counted < 100
    ∧ (bare 300).binRoom = false ∧ (bare 299).binRoom = true
    ∧ (after (.binNoteDelivery .tray) (bare 300)).sup.causes.purgeDrawer = true
    ∧ (after (.transportJam none) (bare 299)).sup.causes.transportDrawer = true
    ∧ after (.binNoteDelivery .tray) (counting 100 0) = counting 100 0
    ∧ (after (.binNoteDelivery .tray) (counting 99 0)).drawer.counted = 100
    ∧ after (.binNoteDelivery .notePath) opened = opened ∧ after (.binNoteDelivery .escrow) opened = opened
    ∧ after (.binNoteDelivery .stacker) opened = opened
    ∧ after (.binNoteDelivery .stacker) (homingAt .escrow false) = homingAt .escrow false := by decide +kernel

/-- Homing's steps: a note of the tray or of the note path in step 1, the tray's count in step 2, a refusal and a jam in
step 3, a jam in step 4 (R190, R191). -/
theorem witness_JamsAndTheBinEndMoneyInMotion_steps :
    let home1 := awayFromHome (homingAt .module false)
    let home2 := fun bin => unowned { binAt bin (homingAt .drawer false) with drawer := (counting 2 bin).drawer }
    home1.sup.homing.step = .module ∧ home1.drawer.counting = false
    ∧ (after (.binNoteDelivery .tray) home1).sup.homing.step = .drawer
    ∧ (after (.binNoteDelivery .notePath) home1).sup.homing.moduleNotes = 1
    ∧ (after (.binNoteDelivery .stacker) (binAt 400 home1)).transport.stacker.kind = .cash
    ∧ (after (.binNoteDelivery .stacker) (binAt 400 home1)).sup.causes.purgeModule = true
    ∧ (home2 299).sup.homing.running = true ∧ (home2 299).drawer.counting = true ∧ (home2 299).drawer.owner = none
    ∧ (after (.binNoteDelivery .tray) (home2 299)).sup.homing.trayNotes = 1
    ∧ (after (.binNoteDelivery .tray) (home2 400)).sup.homing.step = .escrow
    ∧ (after (.binNoteDelivery .tray) (home2 400)).drawer.contents = .retained
    ∧ (after (.binNoteDelivery .escrow) (binAt 400 (homingAt .escrow false))).sup.homing.step = .envelope
    ∧ (after (.transportJam none) (homingAt .escrow false)).sup.homing.step = .envelope
    ∧ (homingAt .envelope false).drawer.counting = false
    ∧ (after (.transportJam none) (homingAt .envelope false)).sup.causes.transportModule = false := by decide +kernel

/-- A delivery that takes the bin to its near-full mark tells both consoles (R8, R12). -/
theorem witness_JamsAndTheBinEndMoneyInMotion_told :
    ((after (.binNoteDelivery .stacker) (purging 2 269)).bus.queue.map (·.body)).length = 2
    ∧ ((after (.binNoteDelivery .tray) (counting 2 269)).bus.queue.map (·.body)).length = 2
    ∧ (after (.binNoteDelivery .tray) (counting 2 268)).bus.queue = [] := by decide +kernel

/-! ### The deal drawer -/

/-- The drawer lent to the intake that receives. -/
def receiving (m : Movement) : Lane :=
  let l := moving m (depositing .receiving)
  { l with drawer := { l.drawer with owner := some ⟨.intake, 5⟩, receiving := true, tray := true } }

/-- The drawer lent to a payout that presents. -/
def presenting (m : Movement) : Lane :=
  let l := moving m (holding .presenting)
  { l with drawer := { l.drawer with owner := some ⟨.payout, 5⟩, contents := .cash, presented := 1 } }

/-- A drawer at rest that is driven back to OUT. -/
def redriven : Lane :=
  let l := drawerOut (holding .presented)
  { l with drawer := { l.drawer with travel := some 104000, atEnd := none } }

/-- A CLEAR run for the supervisor console's request. -/
def clearing : Lane :=
  let l := moving .clear closed
  { l with sup := { l.sup with clearing := some ⟨sv, true⟩ } }

theorem witness_DrawerRunEndsAtItsSensorOrJams_sensor :
    opened.drawer.movement = none ∧ opened.drawer.travel = none
    ∧ (moving .extend opened).drawer.movement = some .extend ∧ DrawerEnd.out ≠ DrawerEnd.home
    ∧ (presenting .extend).drawer.movement = some .extend
    ∧ (presenting .extend).drawer.owner = some ⟨.payout, 5⟩
    ∧ (presenting .extend).payout = some (pay .presenting) ∧ (presenting .extend).drawer.receiving = false
    ∧ (pay .presenting).recallPending = false
    ∧ (receiving .extend).drawer.owner = some ⟨.intake, 5⟩ ∧ (receiving .extend).drawer.receiving = true
    ∧ (receiving .extend).drawer.contents = .empty ∧ (receiving .extend).lockdown.state = .clear
    ∧ (presenting .retract).drawer.movement = some .retract ∧ (presenting .retract).drawer.receiving = false
    ∧ (receiving .retract).drawer.movement = some .retract
    ∧ (receiving .retract).intake = some (deposit .receiving) ∧ (receiving .retract).drawer.tray = true
    ∧ (moving .close opened).drawer.movement = some .close ∧ (moving .close opened).payout = none
    ∧ (moving .close opened).intake = none
    ∧ redriven.drawer.movement = none ∧ redriven.drawer.travel.isSome = true ∧ redriven.drawer.position = .out := by
  decide +kernel

/-- A drawer at rest that is driven back to HOME. -/
def redrivenHome (l : Lane) : Lane :=
  { l with drawer := { l.drawer with position := .home, travel := some 104000, atEnd := none } }

theorem witness_DrawerRunEndsAtItsSensorOrJams_redrive :
    (redrivenHome opened).homesIn .module = false ∧ (redrivenHome opened).drawer.movement = none
    ∧ (redrivenHome opened).drawer.travel.isSome = true ∧ (redrivenHome opened).drawer.position = .home
    ∧ (redrivenHome opened).drawer.owner = none ∧ (redrivenHome opened).drawer.contents = .empty
    ∧ (redrivenHome retained).drawer.contents ≠ .empty
    ∧ (redrivenHome (holding .bundled)).payout = some (pay .bundled) ∧ (redrivenHome (holding .bundled)).intake = none
    ∧ (redrivenHome (withLock .locked)).lockdown.state ≠ .clear
    ∧ ({ redrivenHome (holding .bundled) with transport := { opened.transport with stacker := ⟨.cash, 1, 100⟩ } } : Lane).transport.stacker.notes ≠ 0
    ∧ (redrivenHome (depositing .held)).intake = some (deposit .held) ∧ (deposit .held).presentDeferred = false
    ∧ (redrivenHome opened).latchedFault .drawerOut = false ∧ (redrivenHome opened).latchedFault .drawerIn = false := by
  decide +kernel

/-- The end of a re-drive at HOME: the driver off, the timer stopped, and a giveback that waits gets the drawer
(R67, R83). -/
theorem test_redrive_home :
    (after (.endSensorArrival .home) (redrivenHome opened)).drawer.travel = none
    ∧ (after (.endSensorArrival .home) (redrivenHome { opened with
        intake := some { deposit .givingBack with presentDeferred := true }
        transport := { opened.transport with stacker := ⟨.returned, 2, 0⟩ } })).drawer.movement = some .extend
    ∧ (after (.endSensorArrival .home) (redrivenHome { holding .bundled with
        transport := { opened.transport with stacker := ⟨.cash, 1, 100⟩ } })).payout.map (·.state)
        = some .presenting := by decide +kernel

theorem witness_DrawerRunEndsAtItsSensorOrJams_homing :
    (homingAt .module false).homesIn .module = true ∧ opened.homesIn .module = false
    ∧ (moving .homing (homingAt .drawer false)).homesIn .drawer = true
    ∧ (moving .homing (homingAt .drawer false)).drawer.movement = some .homing
    ∧ (moving .homing (homingAt .escrow false)).homesIn .escrow = true
    ∧ (moving .homing (homingAt .envelope false)).homesIn .envelope = true
    ∧ (moving .close (holding .bundled)).drawer.owner = none
    ∧ ({ holding .bundled with transport := { opened.transport with stacker := ⟨.cash, 1, 100⟩ } } : Lane).transport.stacker.notes ≠ 0
    ∧ (after (.endSensorArrival .home) (moving .homing (homingAt .drawer false))).drawer.counting = true := by
  decide +kernel

/-- The drawer of an intake's returns, of a giveback, or of a payout in a CLEAR run. -/
def clearingFor (o : Option Owner) : Lane :=
  { clearing with drawer := { clearing.drawer with
      owner := o, lastOwnerTag := some 4, contents := .cash, presented := 3, counted := 1 } }

/-- The intake jammed from a state, its drawer in a CLEAR run. -/
def jammedIn (k : OwnerKind) (st : IntakeState) (trayLeft : Bool) : Lane :=
  { clearingFor (some ⟨k, 5⟩) with
    intake := some { deposit .jammed with jammedFrom := some st, trayLeft := trayLeft } }

/-- A payout BUNDLED that waits for a CLOSE run, with its bundle. -/
def waitingFor (l : Lane) : Lane :=
  let m := moving .close l
  { m with
    payout := some { pay .bundled with stackedNotes := 1, stackedValue := 100 }
    transport := { opened.transport with stacker := ⟨.cash, 1, 100⟩ }
    drawer := { m.drawer with waiting := true } }

theorem witness_DrawerRunEndsAtItsSensorOrJams_owners :
    (presenting .extend).drawer.contents = .cash ∧ (presenting .extend).drawer.movement = some .extend
    ∧ ({ pay .presenting with recallPending := true } : Payout).recallPending = true
    ∧ (receiving .extend).drawer.receiving = true ∧ (withLock .locked).lockdown.state ≠ .clear
    ∧ (receiving .retract).drawer.contents = .empty ∧ (receiving .retract).payout = none
    ∧ (receiving .retract).homesIn .module = false
    ∧ (waitingFor opened).drawer.movement = some .close ∧ (waitingFor opened).drawer.owner = none
    ∧ (waitingFor opened).drawer.contents = .empty ∧ (waitingFor opened).intake = none
    ∧ (waitingFor opened).payout.map (·.state) = some .bundled
    ∧ opened.latchedFault .drawerOut = false ∧ opened.latchedFault .drawerIn = false
    ∧ (waitingFor opened).transport.stacker.notes ≠ 0
    ∧ (clearingFor none).drawer.movement = some .clear ∧ (clearingFor none).sup.clearing = some ⟨sv, true⟩
    ∧ (clearingFor none).drawer.owner = none ∧ (clearingFor none).payout = none ∧ (clearingFor none).intake = none
    ∧ (jammedIn .intake .feeding true).drawer.owner = some ⟨.intake, 5⟩
    ∧ (jammedIn .intake .feeding true).intake.map (·.jammedFrom) = some (some .feeding)
    ∧ (jammedIn .giveback .givingBack false).drawer.owner = some ⟨.giveback, 5⟩ := by decide +kernel

/-- What the ends of runs do: R51, R61, R64, R72, R78, R90. -/
theorem test_run_ends :
    (after (.endSensorArrival .out) { presenting .extend with
        payout := some { pay .presenting with recallPending := true } }).drawer.movement = some .retract
    ∧ (after (.endSensorArrival .home) (let l := receiving .retract
        { l with drawer := { l.drawer with tray := false } })).intake = none
    ∧ (after (.endSensorArrival .home) (waitingFor opened)).payout.map (·.state) = some .presenting
    ∧ (after (.endSensorArrival .home) (waitingFor (withLock .locked))).payout.map (·.outcome) = some (some .locked)
    ∧ (after (.endSensorArrival .home) (clearingFor none)).journal.queue.map (·.record)
        = [.drawerCleared (some 4) 2]
    ∧ answers (.endSensorArrival .home) (clearingFor none) = [.done]
    ∧ (after (.endSensorArrival .home) { clearingFor (some ⟨.payout, 5⟩) with
        payout := some (pay .jammed) }).payout = none
    ∧ (after (.endSensorArrival .home) (jammedIn .intake .receiving false)).intake = none
    ∧ (after (.endSensorArrival .home) (jammedIn .intake .returning false)).intake.map (·.state) = some .held
    ∧ (after (.endSensorArrival .home) (jammedIn .intake .feeding false)).intake.map (·.state) = some .held
    ∧ (after (.endSensorArrival .home) (jammedIn .intake .feeding true)).intake.map (·.state) = some .returning
    ∧ (after (.endSensorArrival .home) (jammedIn .giveback .givingBack false)).intake = none := by decide +kernel

theorem witness_DrawerRunEndsAtItsSensorOrJams_timer :
    opened.drawer.travel = none
    ∧ (presenting .extend).drawer.travel.isSome = true ∧ (presenting .extend).drawer.movement ≠ some .clear
    ∧ (presenting .extend).drawer.owner = some ⟨.payout, 5⟩
    ∧ (receiving .extend).drawer.owner = some ⟨.intake, 5⟩
    ∧ (receiving .extend).intake = some (deposit .receiving)
    ∧ clearing.drawer.travel.isSome = true ∧ clearing.drawer.movement = some .clear
    ∧ clearing.sup.clearing = some ⟨sv, true⟩ ∧ answers .travelTimerExpiry clearing = [.unavailable] := by
  decide +kernel

theorem witness_SensorLossRedrivesAndTrayStartsFilters :
    opened.drawer.atEnd ≠ some .out
    ∧ (drawerOut (holding .presented)).drawer.atEnd = some .out ∧ opened.drawer.atEnd = some .home
    ∧ ({ opened with drawer := { opened.drawer with position := .jammed } } : Lane).drawer.position ≠ .home
    ∧ opened.drawer.movement = none ∧ opened.drawer.travel = none ∧ opened.drawer.position = .home
    ∧ (drawerOut (holding .presented)).drawer.position = .out
    ∧ (drawerOut (holding .presented)).lockdown.state = .clear
    ∧ (drawerOut (withLock .locked)).lockdown.state ≠ .clear
    ∧ (drawerOut (withLock .locked)).settings.policy ≠ .leave := by decide

theorem test_sensor_loss :
    (after (.drawerSensorLost .out) (drawerOut (holding .presented))).drawer.travel = some 104000
    ∧ (after (.drawerSensorLost .out) (drawerOut (withLock .locked))).drawer.movement = some .retract
    ∧ (after (.traySensorChange false) (drawerOut (holding .presented))).drawer.takeFilter = some 101000 := by
  decide +kernel

/-- The waits at OUT, all running. -/
def waitingOut : Lane :=
  let l := drawerOut (holding .presented)
  { l with drawer := { l.drawer with
    take := some 100000, takeFilter := some 100000, wait := some 100000, placementFilter := some 100000 } }

theorem witness_WaitsAtOutAndCountsEndTheirWay :
    opened.drawer.takeFilter = none ∧ opened.drawer.take = none ∧ opened.drawer.placementFilter = none
    ∧ opened.drawer.wait = none
    ∧ waitingOut.drawer.atEnd ≠ some .home ∧ waitingOut.drawer.takeFilter.isSome = true
    ∧ waitingOut.drawer.owner = some ⟨.payout, 5⟩ ∧ waitingOut.payout = some (pay .presented)
    ∧ waitingOut.drawer.take.isSome = true ∧ waitingOut.drawer.placementFilter.isSome = true
    ∧ waitingOut.drawer.wait.isSome = true
    ∧ opened.drawer.counting = false
    ∧ (counting 2 0).drawer.counting = true ∧ (counting 2 0).settled = true
    ∧ (counting 2 0).drawer.owner = some ⟨.payout, 5⟩ ∧ (counting 2 0).payout = some (pay .retracting)
    ∧ (counting 2 0).intake = none := by decide +kernel

/-- The tray found empty says that homing's step 1 is over (log entry 6). -/
theorem witness_WaitsAtOutAndCountsEndTheirWay_homing :
    let l := awayFromHome (homingAt .module false)
    l.homesIn .module = true ∧ l.drawer.counting = false ∧ l.drawer.atEnd ≠ some .home
    ∧ (after .retractTrayExhausted l).sup.homing.step = .drawer
    ∧ (after .retractTrayExhausted l).drawer.movement = some .homing
    ∧ (after .retractTrayExhausted (homingAt .module false)).sup.homing.step = .escrow := by decide +kernel

/-- The lane whose drawer, lent to the intake's returns or to a giveback, waits at OUT or counts its tray. -/
def returned (kind : OwnerKind) (st : IntakeState) (counting : Bool) : Lane :=
  let l := depositing st
  { l with drawer := { l.drawer with
      owner := some ⟨kind, 5⟩, position := if counting then .home else .out, atEnd := none, contents := .returned
      takeFilter := some 100000, counting := counting, counted := 2, presented := 2 } }

theorem witness_WaitsAtOutAndCountsEndTheirWay_returns :
    (returned .intake .returning false).drawer.atEnd ≠ some .home
    ∧ (returned .intake .returning false).drawer.takeFilter.isSome = true
    ∧ (returned .intake .returning false).drawer.owner = some ⟨.intake, 5⟩
    ∧ (returned .intake .returning false).intake = some (deposit .returning)
    ∧ (returned .giveback .givingBack false).drawer.owner = some ⟨.giveback, 5⟩
    ∧ (returned .giveback .givingBack false).intake = some (deposit .givingBack)
    ∧ (returned .intake .returning true).drawer.counting = true ∧ (returned .intake .returning true).settled = true
    ∧ (returned .intake .returning true).sup.service ≠ .starting ∧ (returned .intake .returning true).payout = none
    ∧ (after .takeFilterExpiry (returned .intake .returning false)).intake.map (·.state) = some .held
    ∧ (after .takeFilterExpiry (returned .giveback .givingBack false)).intake = none
    ∧ (after .retractTrayExhausted (returned .giveback .givingBack true)).journal.queue.map (·.record)
        = [.capture .uncollected 2]
    ∧ opened.homesIn .module = false ∧ (homingAt .drawer false).homesIn .drawer = true := by decide +kernel

/-- A partial take: 3 presented, 2 counted; the record carries both, and the claim is released (R50). -/
theorem test_partial_take :
    (after .retractTrayExhausted (counting 2 0)).journal.queue.map (·.record)
        = [.retract 5 3 2 ⟨1, 0, 0, 0⟩ 2]
    ∧ (after .retractTrayExhausted (counting 2 0)).ledgers.cash = 0
    ∧ (after .takeFilterExpiry waitingOut).journal.queue.map (·.record) = [.paid 5 100 ⟨1, 0, 0, 0⟩ 0] := by
  decide +kernel

/-! ### Note intake and escrow -/

theorem witness_IntakeTestsInOrder :
    opened.takes sv = true ∧ opened.takes att = true
    ∧ answers (.intake sv 3#8) opened = [.notPermitted] ∧ answers (.intake att 0#8) opened = [.range]
    ∧ answers (.intake att 3#8) closed = [.state] ∧ answers (.intake att 3#8) (withLock .releasable) = [.locked]
    ∧ answers (.intake att 3#8) (paying .staged) = [.busy] ∧ answers (.intake att 3#8) (depositing .held) = [.busy]
    ∧ answers (.intake att 3#8) drawerJammed = [.unavailable]
    ∧ answers (.intake att 3#8) (moving .close opened) = [.busy]
    ∧ answers (.intake att 3#8) { opened with transport := { opened.transport with stacker := ⟨.cash, 0, 0⟩ } }
        = [.unavailable]
    ∧ answers (.intake att 3#8) (binAt 201 opened) = [.unavailable]
    ∧ answers (.intake att 3#8) (journalAs .full opened) = [.journal] := by decide +kernel

/-- The bin at which an intake still has its room (R76), the lane MUTE and ISOLATED (R76: neither refuses it). -/
def roomy : Lane :=
  let l := binAt 200 opened
  { l with bus := { l.bus with mute := .clash }, ledgers := { l.ledgers with isolated := true } }

theorem witness_IntakeIsAdmittedToReceive :
    roomy.fromAttending att = true ∧ (255#8 : Byte) ≠ 0#8 ∧ roomy.sup.service = .opened
    ∧ roomy.lockdown.state = .clear ∧ roomy.payout = none ∧ roomy.intake = none
    ∧ roomy.latchedFault .drawerOut = false ∧ roomy.latchedFault .drawerIn = false ∧ roomy.drawer.free = true
    ∧ roomy.transport.stacker.kind = .empty ∧ 100 = roomy.cass.bin.capacity - roomy.cass.bin.count
    ∧ roomy.canReserve 3 = true ∧ roomy.drawer.atEnd ≠ some .out
    ∧ (after (.intake att 255#8) roomy).intake.map (·.maximum) = some 40 := by decide +kernel

/-- The OUT sensor reports already: the EXTEND run of the receive ends at once (R59, R68). -/
theorem witness_IntakeIsAdmittedToReceive_out :
    let l : Lane := { roomy with drawer := { roomy.drawer with atEnd := some .out, tray := true } }
    l.fromAttending att = true ∧ l.drawer.free = true ∧ l.canReserve 3 = true ∧ l.drawer.atEnd = some .out
    ∧ (after (.intake att 3#8) l).drawer.position = .out ∧ (after (.intake att 3#8) l).drawer.wait = some 145000
    ∧ (after (.intake att 3#8) l).drawer.placementFilter = some 102000 := by decide +kernel

/-- A lane that feeds: the escrow, the returns, the suspects and the bin as given. -/
def feeding (escrow : List EscrowNote) (returns suspect bin : Nat) : Lane :=
  binAt bin { opened with
    intake := some { deposit .feeding with escrow := escrow, suspect := suspect, slots := 3 }
    transport := { opened.transport with stacker := ⟨if returns = 0 then .empty else .returned, returns, 0⟩ }
    drawer := { opened.drawer with contents := .customer, owner := some ⟨.intake, 5⟩ } }

theorem witness_FeederSendsEachNoteItsWay :
    (feeding [⟨0, true⟩, ⟨0, true⟩] 39 0 299).intake.isSome = true
    ∧ (feeding [⟨0, true⟩, ⟨0, true⟩] 39 0 299).settled = true
    ∧ ¬(3 ≤ [(⟨0, true⟩ : EscrowNote), ⟨0, true⟩].length ∨ 40 ≤ 39)
    ∧ opened.cass.denominations.get 0 ≠ none ∧ opened.cass.denominations.get 2 = none
    ∧ (feeding [] 39 0 299).binRoom = true ∧ (feeding [] 39 0 300).binRoom = false
    ∧ 40 ≤ (feeding [] 40 0 0).transport.stacker.notes
    ∧ (feeding [] 0 0 0).transport.stacker.notes = 0 ∧ (feeding [] 0 0 0).drawer.owner = some ⟨.intake, 5⟩
    ∧ (after .feederTrayExhausted (feeding [] 0 0 0)).intake = none
    ∧ (after .feederTrayExhausted (feeding [⟨0, true⟩] 0 0 0)).intake.map (·.state) = some .held := by
  decide +kernel

/-- A lane that feeds, in lockdown, or with its drawer's sensor at OUT. -/
def feedingLocked (suspect : Nat) : Lane := { feeding [] 5 suspect 0 with lockdown := (withLock .locked).lockdown }
def feedingOut : Lane :=
  let l := feeding [] 5 0 0
  { l with drawer := { l.drawer with position := .out, atEnd := some .out } }

theorem witness_FeederSendsEachNoteItsWay_ends :
    (feedingLocked 2).settled = true ∧ (feedingLocked 2).transport.stacker.notes ≠ 0
    ∧ (feedingLocked 2).lockdown.state ≠ .clear
    ∧ (feeding [] 5 2 0).transport.stacker.notes ≠ 0 ∧ (feeding [] 5 2 0).lockdown.state = .clear
    ∧ ((feeding [] 5 2 0).driver .drawerOut).latched.isEmpty = true
    ∧ ((feeding [] 5 2 0).driver .drawerIn).latched.isEmpty = true
    ∧ (feeding [] 5 2 0).drawer.position ≠ .jammed ∧ (feeding [] 5 2 0).drawer.atEnd ≠ some .out
    ∧ feedingOut.settled = true ∧ feedingOut.drawer.atEnd = some .out ∧ feedingOut.payout = none
    ∧ feedingOut.drawer.receiving = false
    ∧ (feeding [⟨0, true⟩] 0 2 0).transport.stacker.notes = 0
    ∧ (feeding [⟨0, true⟩] 0 2 0).drawer.owner = some ⟨.intake, 5⟩
    ∧ 3 ≤ [(⟨0, true⟩ : EscrowNote), ⟨0, true⟩, ⟨0, true⟩].length := by decide +kernel

/-- Feeding ends with returns and suspects (R80 to R83): the record under the reservation, and the present made, or
deferred in lockdown. -/
theorem test_feeding_ends :
    (after .feederTrayExhausted (feeding [] 5 2 0)).journal.queue.map (fun x => (x.record, x.reserved))
        = [(.capture .suspect 2, true)]
    ∧ (after .feederTrayExhausted (feeding [] 5 2 0)).drawer.movement = some .extend
    ∧ (after .feederTrayExhausted (feeding [] 5 2 0)).drawer.presented = 5
    ∧ (after .feederTrayExhausted (feedingLocked 2)).intake.map (fun i => (i.state, i.presentDeferred))
        = some (.returning, true)
    ∧ (after .feederTrayExhausted feedingOut).drawer.take = some 130000
    ∧ (after (.noteFed .unknown) (feeding [] 40 0 0)).intake.map (fun i => (i.state, i.trayLeft))
        = some (.returning, true) := by decide +kernel

/-- A suspect note takes the bin to its near-full mark, or finds it full (R8, R12, R79, R91). -/
theorem witness_FeederSendsEachNoteItsWay_bin :
    ((after (.noteFed .suspect) (feeding [] 0 0 269)).bus.queue.map (·.body)).length = 2
    ∧ (let l := after (.noteFed .suspect) (feeding [⟨0, true⟩] 0 2 300)
       l.intake.map (·.state) = some .stopped ∧ l.journal.queue.map (·.record) = [.capture .suspect 2]
       ∧ l.sup.causes.purgeModule = true ∧ l.sup.service = .closed ∧ l.drawer.owner = none) := by decide +kernel

/-- At its maximum of 3 the feeder takes no note; an unknown one goes to the stacker (R79, R80). -/
theorem test_feeder :
    (after (.noteFed (.note 0 true)) (feeding [⟨0, true⟩, ⟨0, true⟩, ⟨0, true⟩] 0 0 0)).intake.map (·.trayLeft)
        = some true
    ∧ (after (.noteFed (.note 1 false)) (feeding [] 0 0 0)).intake.map (·.escrow) = some [⟨1, false⟩]
    ∧ (after (.noteFed (.note 2 true)) (feeding [] 0 0 0)).transport.stacker = ⟨.returned, 1, 0⟩
    ∧ (after (.noteFed .suspect) (feeding [] 0 0 0)).cass.bin.count = 1 := by decide +kernel

/-- A lane that stacks its escrow. -/
def keeping (escrow : List EscrowNote) (plan : List Position) : Lane :=
  { opened with intake := some { deposit .keeping with escrow := escrow, plan := plan } }

theorem witness_KeepStacksTheEscrowByItsPlan :
    opened.takes sv = true ∧ opened.settings.attending ≠ some sv.source
    ∧ (depositing .returning).fromAttending att = true
    ∧ answers (.keep att) opened = [.state] ∧ answers (.keep att) (depositing .returning) = [.state]
    ∧ answers (.keep ⟨8, 9⟩) (depositing .held) = [.state]
    ∧ answers (.keep att) { journalAs .full opened with intake := some { deposit .held with slots := 0 } } = [.journal]
    ∧ (deposit .held).slots ≠ 0
    ∧ ({ opened with cass := { opened.cass with entry := opened.cass.entry.set 2 Cassette.afterReset } } : Lane).routingPlan
        (deposit .held) = none
    ∧ (depositing .held).routingPlan (deposit .held) = some [1, 2]
    ∧ (keeping [⟨0, true⟩, ⟨1, false⟩] [1, 2]).intake.isSome = true
    ∧ (keeping [⟨1, false⟩] [2]).intake.map (·.state) = some .keeping := by decide +kernel

theorem witness_KeepStacksTheEscrowByItsPlan_plan :
    (deposit .held).escrow[0]? = some ⟨0, true⟩ ∧ ([1, 2] : List Position)[0]? = some 1
    ∧ (deposit .held).escrow[1]? = some ⟨1, false⟩ ∧ ([1, 2] : List Position)[1]? = some 2 := by decide

/-- Notes fit for the recycler go there, the others to the deposit cassette with their value (R86, R87). -/
theorem test_keep_stacks :
    ((after .escrowNoteStacked (keeping [⟨0, true⟩, ⟨1, false⟩] [1, 2])).cass.entry.get 1).count = 61
    ∧ ((after .escrowNoteStacked (keeping [⟨1, false⟩] [2])).cass.entry.get 2).value = some 50
    ∧ (after .escrowNoteStacked (keeping [⟨1, false⟩] [2])).journal.queue.map (·.record)
        = [.kept ⟨0, 0, 1, 0⟩ 50 0] := by decide +kernel

/-- The end of a KEEP (R6, R87, R95): the EMPTY cassette is OK, both consoles hear it, then ESCROW_END. -/
theorem test_keep_ends :
    (after .escrowNoteStacked (keeping [⟨1, false⟩] [2])).bus.queue.map (fun f => (f.body, f.dest))
        = [(.notice (.cassetteChange (some 2) (.inl .ok) none 1), 8),
           (.notice (.cassetteChange (some 2) (.inl .ok) none 1), 9),
           (.notice (.escrowEnd .kept none 1 50 0 0 0), 8)]
    ∧ (after .escrowNoteStacked (keeping [⟨1, false⟩] [2])).intake = none := by decide +kernel

/-- A HELD intake with its escrow timer at this lane. -/
def held (l : Lane) : Lane := { l with intake := some { deposit .held with timer := .running 100000 } }

/-- A lane that gives its escrow back. -/
def givingBack (escrow : List EscrowNote) (l : Lane) : Lane :=
  { l with intake := some { deposit .givingBack with escrow := escrow } }

theorem witness_GivebackReturnsTheEscrow :
    (held opened).fromAttending att = true ∧ (deposit .held).tag = att.tag ∧ (deposit .held).tag ≠ (9 : Tag)
    ∧ answers (.giveback att) (held (withLock .releasable)) = [.locked]
    ∧ answers (.giveback att) (held drawerJammed) = [.unavailable]
    ∧ answers (.giveback att) (held (moving .close opened)) = [.busy]
    ∧ answers (.giveback att) { journalAs .full opened with intake := some { deposit .held with slots := 0 } } = [.journal]
    ∧ answers (.giveback att) (held opened) = [.accepted]
    ∧ (held opened).intake.map (·.timer) = some (.running 100000)
    ∧ (held drawerJammed).lockdown.state = .clear
    ∧ (depositing .held).intake.map (·.timer) = some .stopped
    ∧ (givingBack [⟨0, true⟩, ⟨1, false⟩] opened).settled = true
    ∧ (givingBack [⟨0, true⟩] opened).drawer.free = true
    ∧ (givingBack [⟨0, true⟩] opened).latchedFault .drawerOut = false
    ∧ (givingBack [⟨0, true⟩] opened).latchedFault .drawerIn = false
    ∧ (givingBack [⟨0, true⟩] opened).lockdown.state = .clear
    ∧ (givingBack [⟨0, true⟩] opened).drawer.atEnd ≠ some .out
    ∧ (givingBack [⟨0, true⟩] (withLock .locked)).lockdown.state ≠ .clear
    ∧ (after .escrowTimerExpiry (held opened)).intake.map (·.cause) = some .timeout := by decide +kernel

theorem witness_GivebackReturnsTheEscrow_refused :
    opened.intake = none ∧ (depositing .feeding).fromAttending att = true ∧ (deposit .feeding).state ≠ .held
    ∧ answers (.giveback att) opened = [.state] ∧ answers (.giveback att) (depositing .feeding) = [.state]
    ∧ (let l := givingBack [⟨0, true⟩] opened
       let jammed : Lane := { l with drawer := { l.drawer with position := .jammed } }
       let lent : Lane := { l with drawer := { l.drawer with owner := some ⟨.payout, 9⟩ } }
       jammed.drawer.free = false ∧ lent.drawer.free = false
       ∧ (after .givebackNoteMoved jammed).intake.map (·.presentDeferred) = some true
       ∧ (after .givebackNoteMoved lent).intake.map (·.presentDeferred) = some true) := by decide +kernel

theorem test_giveback_moves :
    (after .givebackNoteMoved (givingBack [⟨0, true⟩, ⟨1, false⟩] opened)).transport.stacker = ⟨.returned, 1, 0⟩
    ∧ (after .givebackNoteMoved (givingBack [⟨0, true⟩] opened)).drawer.movement = some .extend := by decide +kernel

/-! ### Envelopes and the drop safe -/

/-- The peer entries of a wall of two with lane 1 as given. -/
def withPeer (p : Peer) (l : Lane) : Lane :=
  { l with ledgers := { l.ledgers with peer := l.ledgers.peer.set 1 p } }

/-- Lane 1's entry in a state, with its places. -/
def peer (st : PeerState) (places : Nat) : Peer :=
  { opened.ledgers.peer.get 1 with state := st, places := places }

theorem witness_SlotIsTestedAndItsPlaceDecided_tests :
    opened.fromAttending att = true
    ∧ answers (.slot att) closed = [.state] ∧ answers (.slot att) (withLock .releasable) = [.locked]
    ∧ answers (.slot att) muted = [.line]
    ∧ answers (.slot att) { opened with envelope := { opened.envelope with path := .fault } } = [.unavailable]
    ∧ answers (.slot att) (posting .opened false) = [.busy]
    ∧ answers (.slot att) { opened with envelope := { opened.envelope with service := some 1 } } = [.state]
    ∧ answers (.slot att) (withPeer (peer .unknown 0) opened) = [.state]
    ∧ answers (.slot att) (journalAs .full opened) = [.journal]
    ∧ opened.bus.queue.length < 16 ∧ (after (.slot att) opened).envelope.path = .staged := by decide +kernel

/-- The PLACE CLAIM of a record is on the line, and the wall's safe holds as many as given. -/
def placeClaim (abandoned : Bool) (p : Peer) : Lane := claiming (.claim .place 1) abandoned (withPeer p (posting .claiming abandoned))

theorem witness_SlotIsTestedAndItsPlaceDecided_readback :
    (placeClaim true (peer .fresh 0)).onLine? = some { onLine (.claim .place 1) with abandoned := true }
    ∧ (placeClaim true (peer .fresh 0)).envelope.record.map (·.abandoned) = some true
    ∧ (placeClaim false (peer .unknown 0)).envelope.record.map (·.abandoned) = some false
    ∧ ((placeClaim false (peer .unknown 0)).ledgers.peer.get 1).state = .unknown
    ∧ answers .placeClaimReadback (placeClaim false (peer .unknown 0)) = [.state]
    ∧ (after .placeClaimReadback (placeClaim false (peer .fresh 1500))).envelope.path = .idle
    ∧ (after .placeClaimReadback (placeClaim false (peer .fresh 1499))).envelope.path = .opened
    ∧ (after .placeClaimReadback (placeClaim false (peer .fresh 1499))).ledgers.places = 1 := by decide +kernel

/-- An envelope lies at the entry sensor as the path enters OPEN: the entry filter runs from there and captures it (R96,
R103). -/
theorem test_entry_filter_runs_from_the_entry :
    let l := placeClaim false (peer .fresh 0)
    let lying : Lane := { l with envelope := { l.envelope with entry := true } }
    (after .placeClaimReadback l).envelope.entryFilter = none
    ∧ (after .placeClaimReadback lying).envelope.entryFilter = some 100300
    ∧ (after .entryFilterExpiry (after .placeClaimReadback lying)).envelope.path = .capturing
    ∧ (after (.entrySensorChange false) (after .placeClaimReadback lying)).envelope.entryFilter = none := by decide +kernel

/-- The gate is open, its slot timer and filter running. -/
def gateOpen : Lane :=
  let l := posting .opened false
  { l with envelope := { l.envelope with slotTimer := some 100000, entryFilter := some 100000, serial := 65535 } }

theorem witness_EnvelopeIsCapturedOrTheGateCloses :
    opened.envelope.path ≠ .opened ∧ opened.envelope.path ≠ .capturing
    ∧ opened.homesIn .escrow = false ∧ opened.homesIn .envelope = false
    ∧ gateOpen.envelope.path = .opened ∧ gateOpen.envelope.entryFilter.isSome = true
    ∧ gateOpen.envelope.slotTimer.isSome = true
    ∧ (posting .capturing false).envelope.path = .capturing
    ∧ (posting .capturing false).envelope.record.map (·.serial) = some (some 1) := by decide +kernel

/-- An envelope that homing carries to the drop under serial 3. -/
def carried : Lane :=
  let l := homingAt .envelope true
  { l with envelope := { l.envelope with serial := 3, dropTimer := some 105000 } }

theorem witness_EnvelopeIsCapturedOrTheGateCloses_homing :
    carried.envelope.path ≠ .capturing ∧ carried.sup.service = .starting ∧ carried.sup.homing.running = true
    ∧ carried.sup.homing.envelope = none ∧ carried.sup.homing.step = .envelope
    ∧ carried.envelope.dropTimer.isSome = true ∧ (homingAt .escrow true).sup.homing.step = .escrow
    ∧ (after .dropSensorReport carried).homesIn .envelope = true
    ∧ (after .dropSensorReport carried).sup.homing.envelope = some 3
    ∧ (after .dropSensorReport carried).envelope.path = .idle
    ∧ (after .dropTimerExpiry carried).envelope.path = .fault := by decide +kernel

/-- After serial 65,535 comes 1 (R97); a drop outlasting 5 s leaves the path in FAULT (R103). -/
theorem test_envelope :
    (after .entryFilterExpiry gateOpen).envelope.serial = 1
    ∧ (after .entryFilterExpiry gateOpen).envelope.dropTimer = some 105000
    ∧ (after .slotTimerExpiry gateOpen).envelope.path = .idle
    ∧ (after .dropTimerExpiry (posting .capturing false)).envelope.path = .fault
    ∧ (after .dropSensorReport (posting .capturing false)).envelope.path = .idle
    ∧ (after (.entrySensorChange true) (posting .opened false)).envelope.entryFilter = some 100300 := by
  decide +kernel

/-- The safe lane, with its service phase. -/
def safeLane (p : ServicePhase) : Lane :=
  { opened with
    settings := { opened.settings with safeLane := true }
    envelope := { opened.envelope with phase := p, epoch := 65535 } }

theorem witness_SafeRequestsQueueTheirFrames :
    opened.fromSupervisor sv = true
    ∧ answers (.safeOpen sv) opened = [.state]
    ∧ answers (.safeOpen sv) { safeLane .noService with sup := (serving .setup).sup } = [.state]
    ∧ answers (.safeOpen sv) (safeLane .begun) = [.busy]
    ∧ answers (.safeOpen sv) { safeLane .noService with lockdown := (withLock .releasable).lockdown } = [.locked]
    ∧ answers (.safeOpen sv) { safeLane .noService with bus := muted.bus } = [.line]
    ∧ (safeLane .noService).bus.queue.length < 16
    ∧ (after (.safeOpen sv) (safeLane .noService)).envelope.phase = .beginning
    ∧ answers (.safeClose sv) opened = [.state] ∧ answers (.safeClose sv) (safeLane .noService) = [.state]
    ∧ answers (.safeClose sv) (safeLane .doorOpen) = [.busy]
    ∧ answers (.safeClose sv) { safeLane .begun with bus := (sendingNow [frame (.serviceEnd true)]).bus } = [.busy]
    ∧ answers (.safeClose sv) { safeLane .begun with bus := muted.bus } = [.line]
    ∧ (after (.safeClose sv) (safeLane .doorClosed)).bus.queue.map (·.body) = [.emptied 1]
    ∧ (after (.safeClose sv) (safeLane .begun)).bus.queue.map (·.body) = [.serviceEnd true] := by decide +kernel

theorem witness_SafeServiceReachesEveryLane :
    (1 : Station).val ≠ 15 ∧ (1 : Station) ≠ laneStation opened.sup.lane
    ∧ opened.envelope.path ≠ .staged ∧ opened.envelope.path ≠ .claiming ∧ opened.envelope.path ≠ .opened
    ∧ (posting .opened false).envelope.path = .opened ∧ (posting .opened false).envelope.record.isSome = true
    ∧ opened.settings.supervisor = some 9
    ∧ (claiming (.serviceBegin true) false (safeLane .beginning)).onLine? = some (onLine (.serviceBegin true))
    ∧ (claiming (.serviceBegin false) false (safeLane .begun)).onLine? = some (onLine (.serviceBegin false))
    ∧ (claiming (.serviceEnd true) false (safeLane .begun)).openDoorLoop = none
    ∧ (claiming (.serviceEnd false) false (safeLane .begun)).onLine? = some (onLine (.serviceEnd false))
    ∧ (claiming (.emptied 1) false (safeLane .doorClosed)).onLine? = some (onLine (.emptied 1))
    ∧ (claiming (.emptied 1) false (safeLane .doorClosed)).openDoorLoop = none := by decide +kernel

/-- The safe lane's own frame on the line, with an envelope record waiting; its safe door ACTIVE. -/
def safeSending (b : TxBody) (path : PathState) (abandoned : Bool) : Lane :=
  claiming b false { safeLane .beginning with envelope := { (posting path abandoned).envelope with phase := .beginning } }
/-- The lane with a loop of a role, its filtered class and the class it now reads (plain loops). -/
def looped (n : LoopNo) (role : LoopRole) (filtered : Option LoopClass) (code : Byte) (supervised : Bool)
    (l : Lane) : Lane :=
  { l with
    settings := { l.settings with loop := l.settings.loop.set n ⟨role, supervised, .ms200⟩ }
    loops := { l.loops with
      entry := l.loops.entry.set n
        { level := code, filtered := filtered, candidate := some 100000, latch := true, since := 0 } } }

/-- The safe door of the lane filtered ACTIVE. -/
def doorOpen (l : Lane) : Lane := looped 1 .safeDoor (some .active) 200#8 false l

theorem witness_SafeServiceReachesEveryLane_waiting :
    (posting .staged false).envelope.path = .staged ∧ (posting .staged false).envelope.record.map (·.abandoned) = some false
    ∧ (posting .claiming false).envelope.path = .claiming
    ∧ (posting .claiming false).envelope.record.map (·.abandoned) = some false
    ∧ (posting .claiming true).envelope.record.map (·.abandoned) = some true
    ∧ (safeSending (.serviceBegin true) .staged false).onLine? = some (onLine (.serviceBegin true))
    ∧ (safeSending (.serviceBegin true) .opened false).envelope.path = .opened
    ∧ (safeSending (.serviceBegin false) .claiming false).onLine? = some (onLine (.serviceBegin false))
    ∧ (safeSending (.serviceBegin true) .staged false).settings.supervisor = some 9
    ∧ (doorOpen (safeSending (.serviceEnd true) .idle false)).onLine? = some (onLine (.serviceEnd true))
    ∧ (doorOpen (safeSending (.serviceEnd true) .idle false)).openDoorLoop = some 1
    ∧ (doorOpen (safeSending (.emptied 1) .idle false)).onLine? = some (onLine (.emptied 1)) := by decide +kernel

/-- A BEGIN cancels what waits (R100, R106); a service that ends with the door open raises its alarm (R109, R136,
R147). -/
theorem test_safe_service_cancels :
    answers (.safeServiceBeginHeard 1) (posting .staged false) = [.state]
    ∧ (after (.safeServiceBeginHeard 1) (posting .staged false)).envelope.record = none
    ∧ (after (.safeServiceBeginHeard 1) (posting .claiming false)).envelope.record.map (·.abandoned) = some true
    ∧ answers .safeBeginReadback (safeSending (.serviceBegin true) .staged false) = [.state, .accepted]
    ∧ (after .safeBeginReadback (safeSending (.serviceBegin true) .opened false)).bus.queue.map (·.body)
        = [.release .place 1, .notice (.envelopeEnd .cancelled (some .safeService) none), .reply 16 .accepted .empty,
           .notice (.safe .begin 0)]
    ∧ (after .serviceEndReadback (doorOpen (safeSending (.serviceEnd true) .idle false))).bus.queue.map (·.body)
        = [.notice (.alarm 1 .safeDoor .active .door), .notice (.alarm 1 .safeDoor .active .door), .reply 17 .done .empty,
           .notice (.safe .aborted 0)]
    ∧ (after .serviceEndReadback (doorOpen (safeSending (.emptied 1) .idle false))).drivers.strobeMinOn = some 102000 := by
  decide +kernel

theorem test_safe_service :
    (after .safeBeginReadback (claiming (.serviceBegin true) false (safeLane .beginning))).envelope.phase = .begun
    ∧ (after (.safeServiceBeginHeard 1) opened).envelope.service = some 1
    ∧ (after (.safeServiceEndHeard 1) (after (.safeServiceBeginHeard 1) opened)).envelope.service = none
    ∧ ((after (.emptiedHeard 1 7) (withPeer (peer .fresh 9) opened)).ledgers.peer.get 1).places = 0
    ∧ (after .serviceEndReadback (claiming (.emptied 1) false (safeLane .doorClosed))).envelope.epoch = 1 := by
  decide +kernel

/-! ### The custody journal -/

/-- Page 0 open with a RESUME record at slot 1 and a voided slot 2. -/
def written : Lane :=
  let m := Memory.program [] 0 0 (headerOpen 1)
  let m := Memory.program m 0 1 (encodeRecord 0 1 0 1 5#32 .resume)
  { opened with journal := { opened.journal with cells := Memory.program m 0 2 0, nextSlot := 3, voids := 1 } }

theorem witness_JournalReadsTheIndexedSlot :
    written.takes other = true
    ∧ answers (.journal other 0) testing = [.state]
    ∧ answers (.journal other 0) (journalAs .absent opened) = [.unavailable]
    ∧ answers (.journal other 0) written = [.done]
    ∧ written.usedEntries.map (fun e => (e.slot, e.status)) = [(1, .good), (2, .void)]
    ∧ (written.usedEntries[2]?).isNone = true := by decide +kernel

theorem witness_JournalReadsTheIndexedSlot_order :
    LogicalOrder written.journal.cells [0] ⟨some 0, none, 1⟩ ∧ usedInOrder written.journal.cells [0] = [(0, 1), (0, 2)]
    ∧ (∃ e, e ∈ written.usedEntries) := by
  refine ⟨⟨.endsInOpen 0 0 ?_ ?_, by decide, by decide⟩, by decide +kernel,
    ⟨0, 1, .good, encodeRecord 0 1 0 1 5#32 .resume⟩, ?_⟩ <;> decide +kernel

/-- The stored record decodes to what was written, over its own address (R196, R197). -/
theorem test_record_layout :
    recordCheckOk 0 1 (Memory.readSlot written.journal.cells 0 1) = true
    ∧ decodeRecord (Memory.readSlot written.journal.cells 0 1) = some .resume
    ∧ recordCheckOk 0 2 (Memory.readSlot written.journal.cells 0 1) = false
    ∧ slotSequence (Memory.readSlot written.journal.cells 0 1) = 1 := by decide +kernel

/-- The lane with one record to write, and its line operation. -/
def writing (op : Option LineOp) : Lane :=
  { opened with journal := { opened.journal with
    queue := [{ record := .resume, seconds := 1#32, reserved := false }], op := op
    headSequence := if op.isSome then some 2 else none } }

/-- The record to write stands in its slot already, or with a bit too many cleared. -/
def shownAs (l : Lane) (v : SlotBits) : Lane :=
  { l with journal := { l.journal with cells := Memory.program [] 0 2 v } }

theorem witness_JournalWritesTheHeadOrVoidsTheSlot :
    (writing none).journal.queue = [{ record := .resume, seconds := 1#32, reserved := false }]
    ∧ (writing (some .readSlot)).mayWrite = false ∧ (writing none).mayWrite = true
    ∧ ({ writing none with journal := { (writing none).journal with writePage := none, nextPrimary := 3968 } } : Lane).journal.free
        = 0
    ∧ ({ writing none with journal := { (writing none).journal with writePage := none } } : Lane).journal.free ≠ 0
    ∧ ({ writing none with journal := { (writing none).journal with writePage := none } } : Lane).journal.writePage = none
    ∧ ¬((writing none).journal.free = 0 ∨ (writing none).journal.free ≤ (writing none).journal.reserved)
    ∧ (writing none).journal.writePage = some 0 ∧ (writing none).journal.voids < 2
    ∧ (writing none).journal.op = none
    ∧ (writing (some .readSlot)).journal.op = some .readSlot
    ∧ (writing (some (.programSlot 4))).journal.op = some (.programSlot 4)
    ∧ Memory.readSlot (writing (some (.verifySlot 4))).journal.cells 0 2 ≠ (writing (some (.verifySlot 4))).headBits
    ∧ (let l := shownAs (writing (some (.verifySlot 1))) (writing (some (.verifySlot 1))).headBits
       Memory.readSlot l.journal.cells 0 2 = l.headBits ∧ l.journal.voids < 2 ∧ l.journal.nextSlot < 15
       ∧ l.journal.reserved < l.journal.free)
    ∧ (writing (some .voidSlot)).journal.voids = 0 ∧ (writing (some .voidSlot)).journal.state ≠ .fault
    ∧ (writing (some .voidSlot)).journal.state ≠ .absent := by decide +kernel

/-- A lane whose journal's line waits for an operation on its page, with a header as given. -/
def paging (op : LineOp) (page : Nat) (header : SlotBits) (headSequence : Option Nat) : Lane :=
  { opened with journal := { opened.journal with
    cells := Memory.program [] page 0 header, op := some op, headSequence := headSequence, voids := 2, nextSlot := 15
    queue := [{ record := .resume, seconds := 1#32, reserved := false }] } }

theorem witness_JournalWritesTheHeadOrVoidsTheSlot_retire :
    let l : Lane := { writing none with journal := { (writing none).journal with voids := 2 } }
    let full : Lane := { l with journal := { l.journal with spares := sparePageList } }
    l.mayWrite = true ∧ 2 ≤ l.journal.voids ∧ (3968 ∉ l.journal.spares) ∧ full.mayWrite = true
    ∧ full.journal.spares = sparePageList ∧ ¬full.journal.free = 0
    ∧ (after .journalWriteStart l).journal.op = some (.programOpen 3968 true 1)
    ∧ (after .journalWriteStart full).journal.op = some (.programRetire none 1) := by decide +kernel

theorem witness_JournalWritesTheHeadOrVoidsTheSlot_pages :
    (paging (.programOpen 3968 true 1) 0 (headerOpen 1) (some 2)).journal.op = some (.programOpen 3968 true 1)
    ∧ Memory.readSlot (paging (.verifyOpen 3968 true 1) 3968 (headerOpen 2) (some 2)).journal.cells 3968 0
        = headerOpen (1 + 1)
    ∧ Memory.readSlot (paging (.verifyOpen 1 false 1) 1 (headerOpen 2) none).journal.cells 1 0 = headerOpen (1 + 1)
    ∧ Memory.readSlot (paging (.verifyOpen 1 false 1) 1 (headerOpen 3) none).journal.cells 1 0 ≠ headerOpen (1 + 1)
    ∧ (paging (.verifyOpen 1 false 1) 1 (headerOpen 2) none).journal.headSequence = none
    ∧ (paging (.skipPage 3968 true) 0 (headerOpen 1) (some 2)).journal.op = some (.skipPage 3968 true)
    ∧ 3969 ∉ (paging (.skipPage 3968 true) 0 (headerOpen 1) (some 2)).journal.spares
    ∧ (paging (.programRetire (some 3968) 1) 0 (headerOpen 1) none).journal.op = some (.programRetire (some 3968) 1)
    ∧ Memory.readSlot (paging (.verifyRetire none 1) 0 (headerOpen 1 &&& headerRetired none) none).journal.cells 0 0
        = headerOpen 1 &&& headerRetired none
    ∧ Memory.readSlot (paging (.verifyRetire none 1) 0 (headerOpen 1) none).journal.cells 0 0
        ≠ headerOpen 1 &&& headerRetired none
    ∧ (paging .dropRetired 0 (headerOpen 1) none).journal.op = some .dropRetired := by decide +kernel

/-- A page whose own number did not follow the page before it is zeroed: the next page takes one more than that
page's number (R115, R119). -/
theorem test_zeroed_page_gives_its_sequence_back :
    let l := paging .dropRetired 4 (headerOpen 9) none
    (after (.journalLineAnswer none)
      { l with journal := { l.journal with writePage := some 4, lastPageSequence := 9, priorPageSequence := 4 } }).journal.lastPageSequence
      = 4
    ∧ (after (.journalLineAnswer none) (paging (.verifyOpen 1 false 1) 1 (headerOpen 2) none)).journal.priorPageSequence
      = 1 := by decide +kernel

/-- A page with its seal programmed over its OPEN header. -/
def sealed (headSequence : Option Nat) : Lane :=
  let l := paging (.verifySeal 1) 0 (headerOpen 1) headSequence
  { l with journal := { l.journal with
      cells := Memory.program l.journal.cells 0 0 (headerSealed (sealCheck l.journal.cells 0)) } }

theorem witness_JournalWritesTheHeadOrVoidsTheSlot_seal :
    (paging (.sealRead 15) 0 (headerOpen 1) none).journal.op = some (.sealRead 15)
    ∧ (paging (.programSeal 1) 0 (headerOpen 1) none).journal.op = some (.programSeal 1)
    ∧ (sealed none).journal.op = some (.verifySeal 1) ∧ (sealed none).journal.headSequence = none
    ∧ (sealed (some 2)).journal.headSequence.isSome = true
    ∧ (sealed (some 2)).journal.queue = { record := .resume, seconds := 1#32, reserved := false } :: []
    ∧ (paging .unseal 0 (headerOpen 1) none).journal.op = some .unseal
    ∧ (paging (.sealRead 15) 0 (headerOpen 1) none).opPattern (.sealRead 15) = none
    ∧ ∀ n, Memory.readSlot (sealed n).journal.cells 0 0
        = headerOpen 1 &&& headerSealed (sealCheck (sealed n).journal.cells 0) := by
  refine ⟨by decide +kernel, by decide +kernel, by decide +kernel, by decide +kernel, by decide +kernel, by decide +kernel,
    by decide +kernel, by decide +kernel, fun n => ?_⟩
  have wf : Memory.wf (Memory.program [] 0 0 (headerOpen 1)) = true := Memory.program_wf _ _ _ rfl
  have e : (sealed n).journal.cells = Memory.program (Memory.program [] 0 0 (headerOpen 1)) 0 0
      (headerSealed (sealCheck (Memory.program [] 0 0 (headerOpen 1)) 0)) := by simp only [sealed, paging]
  rw [e, Memory.readSlot_program_same _ _ _ wf, sealCheck_program_header _ _ wf,
    Memory.readSlot_program_same _ _ _ rfl, show Memory.readSlot [] 0 0 = BitVec.allOnes 128 by decide +kernel,
    BitVec.allOnes_and]

/-- The write of a record goes on after a page is opened, skipped or retired and after a voided slot, and a record that
no free slot is left for is lost there (R116, R118, R119). -/
theorem witness_JournalWritesTheHeadOrVoidsTheSlot_onward :
    let next := fun (l : Lane) => (after (.journalLineAnswer none) l).journal
    let opens := paging (.verifyOpen 1 false 1) 1 (headerOpen 2) (some 2)
    let skips := paging (.skipPage 3968 true) 0 (headerOpen 1) (some 2)
    opens.journal.op = some (.verifyOpen 1 false 1) ∧ opens.journal.headSequence.isSome = true
    ∧ (next opens).op = some .readSlot ∧ (next opens).writePage = some 1 ∧ (next opens).nextSlot = 1
    ∧ (writing (some .voidSlot)).journal.headSequence.isSome = true ∧ (writing (some .voidSlot)).journal.nextSlot < 15
    ∧ (next (writing (some .voidSlot))).op = some .readSlot
    ∧ (next { writing (some .voidSlot) with journal := { (writing (some .voidSlot)).journal with nextSlot := 15 } }).op
        = some (.sealRead 1)
    ∧ (next { writing (some .voidSlot) with journal := { (writing (some .voidSlot)).journal with voids := 1 } }).op
        = some (.programOpen 3968 true 1)
    ∧ (next { writing (some .voidSlot) with journal := { (writing (some .voidSlot)).journal with
        nextPrimary := 3968, nextSlot := 14, queue := [{ record := .resume, seconds := 1#32, reserved := false }]
        reserved := 1 } }).lost = true
    ∧ (next skips).op = some (.programOpen 3969 true 1) := by decide +kernel

theorem witness_JournalWritesTheHeadOrVoidsTheSlot_retired :
    let next := fun (l : Lane) => (after (.journalLineAnswer none) l).journal
    let retired := fun (s : Option Nat) => paging (.verifyRetire s 1) 0 (headerOpen 1 &&& headerRetired s) (some 2)
    let skip : Lane := let l := paging (.skipPage 1 false) 0 (headerOpen 1) (some 2)
      { l with journal := { l.journal with writePage := none } }
    Memory.readSlot (retired (some 3968)).journal.cells 0 0
        = headerOpen (retired (some 3968)).journal.lastPageSequence &&& headerRetired (some 3968)
    ∧ (next (retired (some 3968))).writePage = some 3968 ∧ (next (retired (some 3968))).op = some .readSlot
    ∧ (next (retired none)).writePage = none ∧ (next (retired none)).op = some (.programOpen 1 false 1)
    ∧ (next (paging .dropRetired 0 (headerOpen 1) (some 2))).op = some (.programOpen 1 false 1)
    ∧ skip.journal.op = some (.skipPage 1 false) ∧ (next skip).op = some (.programOpen 2 false 1)
    ∧ (next (paging .unseal 0 (headerOpen 1) (some 2))).op = some (.programOpen 1 false 1) := by decide +kernel

/-- A used slot is voided; four attempts that leave a bit at 1 void it too (R118). -/
theorem test_slot_is_voided :
    (after (.journalLineAnswer none) (shownAs (writing (some .readSlot)) 1)).journal.op = some .voidSlot
    ∧ (after (.journalLineAnswer none) (writing (some (.verifySlot 3)))).journal.op = some (.programSlot 4)
    ∧ (after (.journalLineAnswer none) (writing (some (.verifySlot 4)))).journal.op = some .voidSlot
    ∧ (after .journalWriteStart (writing none)).journal.headSequence = some 2 := by decide +kernel

theorem witness_JournalStopsWithItsCartridge :
    opened.sup.scanning = false ∧ (journalAs .absent opened).journal.state = .absent
    ∧ opened.sup.testRun = none ∧ opened.journal.state ≠ .absent ∧ opened.journal.op = none
    ∧ (without opened).journal.present = false ∧ opened.journal.present = true
    ∧ (starting true).sup.scanning = true ∧ (starting true).journal.present = true := by decide

theorem witness_JournalStopsWithItsCartridge_writing :
    (writing (some (.programSlot 1))).sup.scanning = false
    ∧ (writing (some (.programSlot 1))).journal.op = some (.programSlot 1)
    ∧ (writing (some (.programSlot 1))).opPattern (.programSlot 1) ≠ none
    ∧ (writing (some .readSlot)).opPattern .readSlot = none
    ∧ (journalAs .absent testing).journal.state = .absent ∧ (journalAs .absent testing).journal.present = true
    ∧ (journalAs .absent testing).sup.testRun ≠ none
    ∧ (after .journalLineTimeout (journalAs .absent testing)).sup.testFault = true
    ∧ (without (journalAs .absent opened)).journal.present = false := by decide +kernel

theorem test_cartridge_events :
    (after .journalLineTimeout opened).journal.state = .fault
    ∧ (after .cartridgeRemoval opened).journal.state = .absent
    ∧ (after (.cartridgeInsertion none) (after .cartridgeRemoval opened)).journal.present = true := by
  decide +kernel

/-! ### The note mix -/

theorem witness_MixPaysExactlyWithFewestNotes :
    firstMix worked 5000 0 .fewest = .range ∧ firstMix worked 5000 5001 .spread = .range
    ∧ (match firstMix worked 5000 370 .spread with | .mix m => m.total | _ => 0) = 6
    ∧ 0 < 370 ∧ 370 ≤ 5000
    ∧ (∀ i, (⟨3, 1, 0, 1⟩ : Four Nat).get i ≤ (worked.get i).count)
    ∧ (positions.map (fun i => (⟨3, 1, 0, 1⟩ : Four Nat).get i * (worked.get i).denomination.getD 0)).sum = 370
    ∧ (positions.map (⟨3, 1, 0, 1⟩ : Four Nat).get).sum ≤ 40 := by decide +kernel

/-- Within the low marks 100 is paid by one note of the first cassette, and by none where it stands at its mark. -/
theorem witness_MixPaysExactlyWithFewestNotes_spread :
    (∀ i, (⟨1, 0, 0, 0⟩ : Four Nat).get i ≤ (opened.cass.entry.get i).count - (opened.cass.entry.get i).lowMark)
    ∧ (positions.map (fun i => (⟨1, 0, 0, 0⟩ : Four Nat).get i * ((opened.cass.entry.get i).denomination.getD 0))).sum
        = 100
    ∧ ∀ n : Four Nat,
        ¬((∀ i, n.get i ≤ ((Four.replicate (cassette .dispense (some 100) 10 .low)).get i).count
              - ((Four.replicate (cassette .dispense (some 100) 10 .low)).get i).lowMark)
          ∧ (positions.map (fun i => n.get i *
              ((Four.replicate (cassette .dispense (some 100) 10 .low)).get i).denomination.getD 0)).sum = 100) := by
  refine ⟨by decide, by decide, ?_⟩
  rintro n ⟨h, hs⟩
  have h0 := h 0
  have h1 := h 1
  have h2 := h 2
  have h3 := h 3
  simp [Four.replicate, Four.get, cassette] at h0 h1 h2 h3
  simp [positions, Four.get, Four.replicate, cassette, h0, h1, h2, h3] at hs

/-! ### Reports and their clear flags -/

theorem witness_ReportsTellAndTheirFlagsClear :
    opened.takes sv = true ∧ opened.bus.queue.length < 16 ∧ opened.settings.supervisor = some sv.source
    ∧ 2 ^ 14 ≤ (0x4000#16).toNat ∧ (0x2000#16).toNat < 2 ^ 14
    ∧ opened.conditions &&& 0x0001#16 = 0 ∧ opened.conditions &&& 0x2000#16 ≠ 0
    ∧ (∀ n, (opened.settings.loop.get n).role = .enclosure → (opened.loops.entry.get n).filtered = some .normal)
    ∧ ((looped 2 .enclosure (some .active) 200#8 false opened).settings.loop.get 2).role = .enclosure
    ∧ ((looped 2 .enclosure (some .active) 200#8 false opened).loops.entry.get 2).filtered ≠ some .normal
    ∧ ((looped 1 .safeDoor (some .active) 200#8 false opened).loops.entry.get 1).filtered = some .active
    ∧ opened.drivers.strobeMinOn = none
    ∧ closed.takes sv = true ∧ closed.settled = true ∧ closed.intake = none ∧ closed.sup.service ≠ .opened := by
  decide +kernel

/-- Each condition of R187 is set in some lane, at its boundary where its rule has one (R7, R112), and clear in
another. -/
theorem test_conditions :
    (opened.conditions = 0x2000#16)
    ∧ (withLock .releasable).conditions.getLsbD 0 = true
    ∧ (let with0 := fun c => ({ opened with cass := { opened.cass with entry := opened.cass.entry.set 0 c } } : Lane)
       (with0 (cassette .dispense (some 100) 5 .low)).conditions.getLsbD 1 = true
       ∧ (with0 (cassette .deposit none 0 .empty)).conditions.getLsbD 1 = false
       ∧ (with0 (cassette .dispense (some 100) 5 .suspect)).conditions.getLsbD 2 = true)
    ∧ (let bin := fun n => ({ opened with cass := { opened.cass with bin := ⟨n, 300⟩ } } : Lane)
       (bin 270).conditions.getLsbD 3 = true ∧ (bin 269).conditions.getLsbD 3 = false)
    ∧ (let held := fun n => ({ opened with ledgers := { opened.ledgers with places := n } } : Lane)
       (held 1350).conditions.getLsbD 4 = true ∧ (held 1349).conditions.getLsbD 4 = false)
    ∧ (let jr := fun st => ({ opened with journal := { opened.journal with state := st, lost := true } } : Lane)
       (jr .low).conditions.getLsbD 5 = true ∧ (jr .absent).conditions.getLsbD 6 = true
       ∧ (jr .ready).conditions.getLsbD 6 = false ∧ (jr .ready).statusConditions = 0x6000#16)
    ∧ (looped 3 .spare (some .normal) 0#8 false opened).conditions.getLsbD 7 = true
    ∧ (looped 3 .spare (some .short) 0#8 true opened).conditions.getLsbD 8 = true
    ∧ (looped 3 .spare (some .active) 0#8 true opened).conditions.getLsbD 8 = false
    ∧ (after .tempHot opened).conditions.getLsbD 9 = true
    ∧ ({ opened with drawer := { opened.drawer with position := .jammed } } : Lane).conditions.getLsbD 10 = true
    ∧ (depositing .held).conditions.getLsbD 11 = true := by decide +kernel

/-- A CLOSED or OPEN lane with DRAWER_OUT's SHORT_SUPPLY latched and no longer live. -/
def cleared (l : Lane) : Lane :=
  l.withDriver .drawerOut { l.driver .drawerOut with latched := { FaultSet.none with shortSupply := true } }

/-- Returns or a giveback whose present that fault has put off. -/
def deferredBy (st : IntakeState) : Lane :=
  cleared { opened with
    intake := some { deposit st with presentDeferred := true }
    transport := { opened.transport with stacker := ⟨.returned, 2, 0⟩ } }

theorem witness_ReportsTellAndTheirFlagsClear_drivers :
    (cleared opened).takes sv = true ∧ (cleared opened).settled = true ∧ (cleared opened).sup.service = .opened
    ∧ (cleared opened).sup.causes.driver = false
    ∧ ((cleared opened).driver .shutter).latched.isEmpty = true
    ∧ (∀ d : Fin 8, ((cleared opened).drivers.entry.get d).latched.hot = false)
    ∧ (deferredBy .returning).takes sv = true ∧ (deferredBy .returning).settled = true
    ∧ (deferredBy .returning).lockdown.state = .clear ∧ (deferredBy .returning).drawer.position ≠ .jammed
    ∧ (deferredBy .givingBack).drawer.free = true ∧ (deferredBy .givingBack).drawer.atEnd ≠ some .out
    ∧ ((deferredBy .returning).driver .drawerOut).live.isEmpty = true
    ∧ ((deferredBy .returning).driver .drawerIn).latched.isEmpty = true
    ∧ (let out : Lane := { deferredBy .returning with
         drawer := { opened.drawer with position := .out, atEnd := some .out } }
       out.takes sv = true ∧ out.settled = true ∧ out.payout = none ∧ out.drawer.receiving = false) := by
  decide +kernel

/-- The clear of DRIVERS asks a deferred present again (R83, R144). -/
theorem test_drivers_clear_presents :
    (after (.driversClear sv) (deferredBy .returning)).drawer.movement = some .extend
    ∧ (after (.driversClear sv) (deferredBy .givingBack)).drawer.owner = some ⟨.giveback, 5⟩
    ∧ (after (.driversClear sv) (cleared opened)).sup.service = .opened
    ∧ ((after (.driversClear sv) (cleared opened)).driver .drawerOut).latched = FaultSet.none := by decide +kernel

theorem test_reports_clear :
    (after (.loops other) opened).sup.powerLost = false
    ∧ (after (.rollcall other 0x2000#16) opened).sup.powerLost = false
    ∧ ((after (.loopsClear sv) (looped 2 .enclosure (some .active) 200#8 false opened)).loops.entry.get 2).latch = false
    ∧ answers (.drivers other) opened = [.done] := by decide +kernel

/-! ### Alarm loops -/

theorem witness_LoopFiltersAndTakesItsRoleAction :
    (looped 3 .spare (some .normal) 200#8 false opened).settled = true
    ∧ (opened.loops.entry.get 3).candidate = none
    ∧ ((looped 3 .spare (some .normal) 20#8 false opened).loops.entry.get 3).candidate.isSome = true
    ∧ ((looped 3 .spare none 20#8 false opened).loops.entry.get 3).filtered.getD .normal = classify false 20#8
    ∧ (some LoopClass.normal).getD .normal ≠ classify false 200#8
    ∧ classify true 31#8 = .short ∧ classify true 192#8 = .cut
    ∧ opened.loops.hits.length + 1 < opened.settings.vibration ∧ opened.sup.causes.attack = false
    ∧ opened.settings.vibration ≤ ([1, 2, 3] ++ [opened.clock]).length
    ∧ opened.lockdown.state = .clear ∧ closed.sup.service ≠ .opened ∧ opened.sup.service = .opened
    ∧ opened.payout = none ∧ (safeLane .noService).envelope.phase = .noService
    ∧ (safeLane .doorOpen).envelope.phase = .doorOpen := by decide +kernel

/-- The fourth hit within 60 s is an attack; SAFE_DOOR outside a service lights the strobe (R136, R138). -/
theorem test_role_actions :
    (after (.loopFilterExpiry 3) (looped 3 .vibration (some .normal) 200#8 false
        { opened with loops := { opened.loops with hits := [1, 2, 3] } })).sup.causes.attack = true
    ∧ (after (.loopFilterExpiry 3) (looped 3 .vibration (some .normal) 200#8 false
        { opened with loops := { opened.loops with hits := [1, 2] } })).sup.causes.attack = false
    ∧ ((after (.loopFilterExpiry 1) (looped 1 .safeDoor (some .normal) 200#8 false opened)).driver .strobe).commanded
        = true
    ∧ (after (.loopFilterExpiry 2) (looped 2 .enclosure (some .normal) 31#8 true opened)).sup.service = .closed
    ∧ ((after (.loopFilterExpiry 0) (looped 0 .cassetteDoor (some .normal) 200#8 false opened)).cass.entry.get 0).state
        = .suspect := by decide +kernel

/-- A cassette door at an OPEN lane that pays, and the safe door in each phase of a service (R107, R136, R137). -/
theorem witness_LoopFiltersAndTakesItsRoleAction_doors :
    let opens := fun (l : Lane) => looped 1 .safeDoor (some .normal) 200#8 false l
    let shuts := fun (l : Lane) => looped 1 .safeDoor (some .active) 20#8 false l
    let then_ := fun l => (after (.loopFilterExpiry 1) l).envelope.phase
    let cassettes := after (.loopFilterExpiry 0) (looped 0 .cassetteDoor (some .normal) 200#8 false picking)
    picking.transport.path ≠ [] ∧ (pay .picking).stackedValue ≠ (pay .picking).amount
    ∧ cassettes.transport.lost = some 0 ∧ (cassettes.cass.entry.get 3).state = .unused
    ∧ (opens (safeLane .beginning)).settled = true ∧ (opens (safeLane .beginning)).rawClass 1 = .active
    ∧ then_ (opens (safeLane .beginning)) = .doorOpen ∧ then_ (opens (safeLane .begun)) = .doorOpen
    ∧ then_ (opens (safeLane .doorClosed)) = .doorOpen ∧ then_ (opens (safeLane .doorOpen)) = .doorOpen
    ∧ then_ (opens (safeLane .noService)) = .noService
    ∧ then_ (shuts (safeLane .doorOpen)) = .doorClosed ∧ then_ (shuts (safeLane .begun)) = .begun
    ∧ then_ (shuts (safeLane .noService)) = .noService
    ∧ ((after (.loopFilterExpiry 1) (shuts ((safeLane .noService).command .strobe true))).driver .strobe).commanded = false
    ∧ ((after (.loopFilterExpiry 1) (opens (withLock .locked))).driver .strobe).commanded = false
    ∧ ((after (.loopFilterExpiry 1) (opens opened)).bus.queue.map (·.body)).length = 3 := by decide +kernel

/-- The hit that reaches the threshold of 4 is one with three before it; a list of 8 loses its oldest (R138). -/
theorem witness_LoopFiltersAndTakesItsRoleAction_hits :
    let hit := fun hits (l : Lane) =>
      after (.loopFilterExpiry 3) (looped 3 .vibration (some .normal) 200#8 false
        { l with loops := { l.loops with hits := hits } })
    opened.settings.vibration = 4
    ∧ (hit [1, 2, 3] opened).drivers.strobeMinOn = some (100000 + opened.settings.strobeMinOn * 1000)
    ∧ (hit [1, 2, 3] opened).sup.service = .closed
    ∧ (hit [1, 2, 3] (withLock .locked)).drivers.strobeMinOn = none
    ∧ (hit [1, 2, 3, 4, 5, 6, 7, 8] opened).loops.hits = [2, 3, 4, 5, 6, 7, 8, 100000]
    ∧ (hit [1, 2, 3] { opened with sup := { opened.sup with causes := { opened.sup.causes with attack := true } } }).bus.queue.length
        = 1 := by decide +kernel

/-- The bounds of R132's table, read by a measurement. -/
theorem test_loop_measurement :
    classify true 111#8 = .normal ∧ classify true 112#8 = .active ∧ classify true 191#8 = .active
    ∧ classify false 127#8 = .normal ∧ classify false 128#8 = .active
    ∧ ((after (.loopMeasurement 3 200#8) opened).loops.entry.get 3).candidate = some 100200
    ∧ (after .hitAgeing { opened with loops := { opened.loops with hits := [1, 2] } }).loops.hits = [2] := by
  decide +kernel

/-! ### Output drivers -/

/-- The lane with a driver on, its stage showing an open load, blanked or not. -/
def driven (d : Driver) (blanking : Timer) : Lane :=
  opened.withDriver d { opened.driver d with
    commanded := true, blanking := blanking, stage := { FaultSet.none with openOn := true } }

theorem witness_DriverFaultsLatchAndAct :
    ((driven .laneLamp none).driver .laneLamp).output = true
    ∧ (opened.driver .laneLamp).output = false ∧ (opened.driver .laneLamp).diagnostics = true
    ∧ (driven .laneLamp (some 100000)).driverCause = (driven .laneLamp (some 100000)).sup.causes.driver
    ∧ ((driven .laneLamp none).driver .laneLamp).blanking = none
    ∧ ((driven .shutter (some 100000)).driver .shutter).blanking.isSome = true
    ∧ (driven .shutter (some 100000)).sup.causes.driver = false
    ∧ (driven .envGate (some 100000)).envelope.record = none ∧ (driven .envGate (some 100000)).envelope.path = .idle
    ∧ ({ opened with drivers := { opened.drivers with hot := true } } : Lane).drivers.hot = true
    ∧ opened.drivers.hot = false ∧ (∀ d : Fin 8, (opened.drivers.entry.get d).latched.hot = false)
    ∧ opened.drivers.strobeMinOn = none ∧ opened.drivers.lampHold = none
    ∧ ({ opened with drivers := { opened.drivers with strobeMinOn := some 1, lampHold := some 1 } } : Lane).drivers.lampHold.isSome
        = true := by decide +kernel

theorem witness_DriverFaultsLatchAndAct_hot :
    (opened.driver .envGate).latched.hot = false ∧ (posting .opened false).drivers.hot = false
    ∧ (posting .opened false).payout = none ∧ (posting .opened false).envelope.path = .opened
    ∧ (posting .staged false).envelope.path = .staged
    ∧ (posting .staged false).envelope.record.map (·.abandoned) = some false
    ∧ (posting .claiming false).envelope.path = .claiming
    ∧ (after .tempHot (posting .opened false)).envelope.path = .fault
    ∧ (after .tempHot (posting .claiming false)).envelope.record.map (·.faultAtEnd) = some true := by decide +kernel

/-- A latched fault of the gate finds each state of the envelope path, one of the shutter closes the lane, and an overload
switches its output off (R100, R104, R143); the second hot report of a lane whose sets hold HOT leaves the path. -/
theorem witness_DriverFaultsLatchAndAct_latching :
    let gate := fun p => let l := posting p false
      after (.driverConditionChange .envGate .openOn true)
        (l.withDriver .envGate { l.driver .envGate with commanded := true, blanking := none })
    let again := after .tempNormal (after .tempHot opened)
    (opened.driver .envGate).latched.isEmpty = true
    ∧ (gate .staged).envelope.path = .fault ∧ (gate .staged).envelope.record = none
    ∧ (gate .claiming).envelope.record.map (fun r => (r.abandoned, r.faultAtEnd)) = some (true, true)
    ∧ (gate .opened).envelope.path = .fault ∧ (gate .opened).envelope.record = none
    ∧ ((gate .opened).driver .envGate).commanded = false
    ∧ (gate .capturing).envelope.record.map (·.faultAtEnd) = some true ∧ (gate .capturing).envelope.path = .capturing
    ∧ (after (.driverConditionChange .shutter .overload true) (driven .shutter none)).sup.causes.driver = true
    ∧ ((after (.driverConditionChange .shutter .overload true) (driven .shutter none)).driver .shutter).blanking = some 100010
    ∧ again.drivers.hot = false ∧ (again.driver .envGate).latched.hot = true ∧ (again.driver .imprint).latched.hot = true
    ∧ (after .tempHot again).drivers.hot = true := by decide +kernel

/-- Two kinds that latch as the blanking ends send a notice each (R143). -/
theorem test_two_kinds_two_notices :
    let two := (driven .strobe (some 100000)).withDriver .strobe
      { (driven .strobe (some 100000)).driver .strobe with
        stage := { FaultSet.none with openOn := true, overload := true } }
    (after (.blankingExpiry .strobe) two).bus.queue.length
      = 2 * (after (.blankingExpiry .strobe) (driven .strobe (some 100000))).bus.queue.length := by
  decide +kernel

theorem test_driver_faults :
    ((after (.driverConditionChange .strobe .overload true) (driven .strobe none)).driver .strobe).output = false
    ∧ ((after (.driverConditionChange .strobe .overload true) (driven .strobe (some 100005))).driver .strobe).latched
        = FaultSet.none
    ∧ (after (.blankingExpiry .shutter) (driven .shutter (some 100000))).sup.service = .closed
    ∧ (after (.blankingExpiry .envGate) (driven .envGate (some 100000))).envelope.path = .fault
    ∧ (after .tempHot opened).sup.causes.driver = true
    ∧ ((after .tempNormal (after .tempHot opened)).driver .imprint).latched.hot = true
    ∧ ((after .lampHoldExpiry { opened with drivers := { opened.drivers with lampHold := some 1 } }).driver .laneLamp).commanded
        = true
    ∧ (after .strobeMinOnExpiry { opened with drivers := { opened.drivers with strobeMinOn := some 1 } }).drivers.strobeMinOn
        = none := by decide +kernel

/-! ### Lockdown -/

theorem witness_HoldUpsAndBreaksLockTheLane :
    (looped 4 .holdup (some .normal) 200#8 false opened).settled = true
    ∧ (looped 4 .holdup (some .normal) 200#8 false opened).rawClass 4 = .active
    ∧ ((looped 4 .holdup (some .normal) 200#8 false opened).loops.entry.get 4).candidate.isSome = true
    ∧ ((looped 4 .holdup (some .normal) 200#8 false opened).loops.entry.get 4).filtered ≠ some .active
    ∧ (looped 4 .holdup (some .normal) 200#8 false opened).setupDone = true
    ∧ (looped 4 .holdup (some .normal) 200#8 false opened).lockdown.state = .clear
    ∧ (looped 4 .holdup (some .normal) 200#8 false (withLock .locked)).settled = true
    ∧ (withLock .locked).lockdown.state ≠ .clear ∧ (withLock .releasable).lockdown.state ≠ .clear
    ∧ ({ opened with bus := { opened.bus with breakTimer := some 1 } } : Lane).bus.breakTimer.isSome = true
    ∧ opened.bus.breakTimer = none ∧ opened.sup.service ≠ .failed ∧ opened.lockdown.state = .clear
    ∧ opened.payout = none ∧ opened.intake = none
    ∧ (1 : Station).val ≠ 15 ∧ (1 : Station) ≠ laneStation opened.sup.lane
    ∧ (withLock .locked).lockdown.hold.isSome = true ∧ (withLock .releasable).lockdown.hold = none := by
  decide +kernel

theorem witness_HoldUpsAndBreaksLockTheLane_frames :
    (serving .starting).sup.service ≠ .failed ∧ (serving .starting).lockdown.state = .clear
    ∧ (serving .failed).sup.service = .failed ∧ (serving .failed).bus.breakTimer = none
    ∧ (sendingNow [onLine (.lockdown ⟨0, 1⟩)]).onLine? = some (onLine (.lockdown ⟨0, 1⟩))
    ∧ (∀ f, opened.onLine? = some f → ∀ o, f.body ≠ .lockdown o)
    ∧ ({ withLock .locked with bus := (sendingNow [onLine (.lockdown ⟨0, 1⟩)]).bus } : Lane).lockdown.state ≠ .clear := by
  refine ⟨by decide, by decide, by decide, by decide, by decide, ?_, by decide⟩
  intro f h
  cases h

/-- STARTING holds the record, FAILED takes nothing, and the own frame's readback is a LOCKDOWN heard (R149, R151,
R152); the payout is answered LOCKED. -/
theorem test_lockdown_frames :
    (after .breakHeard (serving .starting)).lockdown.heldRecords = [.lockdown none]
    ∧ (after .breakHeard (serving .starting)).journal.queue = []
    ∧ (after .breakHeard (serving .failed)).lockdown.state = .clear
    ∧ (after (.lockdownFrameHeard 1 none) (serving .failed)).lockdown.state = .clear
    ∧ (let l := after (.lockdownFrameHeard 0 none) (sendingNow [onLine (.lockdown ⟨0, 1⟩)])
       l.lockdown.state = .locked ∧ l.journal.queue.map (·.record) = [.lockdown (some ⟨0, 1⟩)]
       ∧ l.bus.queue.map (·.body) = [.status none])
    ∧ (after (.lockdownFrameHeard 0 none) opened).bus.mute = .clash
    ∧ answers .breakHeard (paying .staged) = [.locked]
    ∧ answers .breakHeard (posting .staged false) = [.locked]
    ∧ (after .breakHeard (posting .opened false)).bus.queue.map (·.body)
        = [.release .place 1, .notice (.envelopeEnd .cancelled (some .locked) none), .status none] := by
  decide +kernel

/-- The lane with the drawer policy LEAVE. -/
def leaving (l : Lane) : Lane := { l with settings := { l.settings with policy := .leave } }

/-- A payout's cash at OUT, away from the HOME sensor; the intake's drawer waiting there. -/
def atOut : Lane := drawerOut (holding .presented)
def awaiting : Lane :=
  { depositing .receiving with drawer := { opened.drawer with
      position := .out, atEnd := some .out, receiving := true, owner := some ⟨.intake, 5⟩ } }

theorem witness_HoldUpsAndBreaksLockTheLane_jobs :
    opened.drawer.position ≠ .out ∧ atOut.drawer.atEnd ≠ some .home ∧ atOut.settings.policy = .retract
    ∧ (leaving atOut).settings.policy ≠ .retract ∧ atOut.drawer.position = .out ∧ atOut.drawer.contents = .cash
    ∧ (paying .staged).payout = some (pay .staged) ∧ picking.transport.path ≠ []
    ∧ (holding .bundled).transport.path = [] ∧ (holding .bundled).transport.stacker.notes = 0
    ∧ (after .breakHeard picking).payout.map (·.state) = some .purging
    ∧ (after .breakHeard (holding .bundled)).payout = none
    ∧ (after .breakHeard (holding .presenting)).payout.map (·.recallPending) = some true
    ∧ (after .breakHeard (leaving (holding .presenting))).payout.map (·.recallPending) = some false
    ∧ (after .breakHeard atOut).payout.map (·.state) = some .retracting
    ∧ (after .breakHeard (leaving atOut)).payout.map (·.state) = some .presented
    ∧ (after .breakHeard (holding .jammed)).payout.map (·.state) = some .jammed := by decide +kernel

theorem witness_HoldUpsAndBreaksLockTheLane_deposits :
    awaiting.drawer.position = .out ∧ awaiting.drawer.receiving = true ∧ awaiting.drawer.atEnd ≠ some .home
    ∧ awaiting.intake = some (deposit .receiving) ∧ awaiting.payout = none
    ∧ (after .breakHeard awaiting).drawer.movement = some .retract
    ∧ (after .breakHeard { opened with intake := some { deposit .held with timer := .running 100700 } }).intake.map (·.timer)
        = some (.suspended 700)
    ∧ (after .breakHeard (posting .staged false)).envelope.path = .idle
    ∧ (after .breakHeard (posting .claiming false)).envelope.record.map (·.abandoned) = some true
    ∧ (after .breakHeard (posting .opened false)).envelope.record = none
    ∧ (after .breakHeard (posting .capturing false)).envelope.path = .capturing := by decide +kernel

/-- The records and the lamp at entry, and the loop that reports the hold-up (R116, R133, R148, R152). -/
theorem witness_HoldUpsAndBreaksLockTheLane_records :
    let full : Lane := { opened with journal := { opened.journal with
      queue := List.replicate 16 { record := .resume, seconds := 1#32, reserved := false } } }
    let lit := opened.command .laneLamp true
    let loop := (after (.loopFilterExpiry 4) (looped 4 .holdup (some .normal) 200#8 false opened)).loops.entry.get 4
    (after .breakHeard (holding .bundled)).journal.queue.map (fun x => (x.record, x.reserved))
        = [(.lockdown none, false), (.purge .locked ⟨1, 0, 0, 0⟩ 0, true)]
    ∧ (after .breakHeard (depositing .held)).journal.queue.map (·.record) = [.lockdown none]
    ∧ full.journal.queue.length + full.heldSlots = 16 ∧ (after .breakHeard full).journal.lost = true
    ∧ (after .breakHeard full).journal.queue = full.journal.queue
    ∧ lit.drivers.lampHold = none ∧ (after .breakHeard lit).drivers.lampHold = some 101000
    ∧ ((after .breakHeard lit).driver .laneLamp).commanded = false
    ∧ (let held : Lane := { lit with drivers := { lit.drivers with lampHold := some 100500 } }
       ((after .breakHeard held).driver .laneLamp).commanded = true)
    ∧ loop.filtered = some .active ∧ loop.latch = true ∧ loop.since = 100000 ∧ loop.candidate = none := by decide +kernel

theorem test_lockdown :
    (after .breakHeard opened).lockdown.state = .locked
    ∧ (after .breakHeard opened).lockdown.hold = some 400000
    ∧ (after (.lockdownFrameHeard 1 none) (paying .staged)).payout = none
    ∧ (after .holdTimerExpiry (withLock .locked)).lockdown.state = .releasable
    ∧ (after .breakEnd { opened with bus := { opened.bus with breakTimer := some 1 } }).bus.breakTimer = none := by
  decide +kernel

/-- A full transmit queue drops the frame on arrival: LINE, the phase NONE again, the open door's alarm raised (R107,
R109, R147, R183). -/
theorem witness_SafeRequestsQueueTheirFrames_full :
    let q := List.replicate 16 lockFrame
    let full := fun (l : Lane) => ({ l with bus := { l.bus with queue := q } } : Lane)
    let door : Lane := { looped 4 .safeDoor (some .active) 200#8 false opened with envelope := (safeLane .noService).envelope }
    let open_ : Lane := { door with settings := { door.settings with safeLane := true } }
    (txJoin q (TxFrame.fresh (.serviceBegin true) everyStation sv.tag)).2 = true
    ∧ (txJoin q (TxFrame.fresh (.emptied 1) everyStation sv.tag)).2 = true
    ∧ (full (safeLane .noService)).openDoorLoop = none ∧ (full open_).openDoorLoop = some 4
    ∧ (after (.safeOpen sv) (full (safeLane .noService))).envelope.phase = .noService
    ∧ ((after (.safeOpen sv) (full open_)).driver .strobe).commanded = true
    ∧ ((after (.safeOpen sv) ((safeLane .noService).command .strobe true)).driver .strobe).commanded = false := by
  decide +kernel

theorem witness_ResumeIsTestedAndClearsTheLane :
    opened.takes att = true ∧ answers (.resume att) opened = [.notPermitted] ∧ answers (.resume sv) opened = [.state]
    ∧ (withLock .locked).takes sv = true ∧ (withLock .locked).lockdown.hold = some 101500
    ∧ (withLock .locked).clock < 101500 ∧ 1000 * (2 - 1) < 101500 - (withLock .locked).clock
    ∧ 101500 - (withLock .locked).clock ≤ 1000 * 2 ∧ 101500 ≤ (withLock .locked).clock + 1800 * 1000
    ∧ (after (.resume sv) (withLock .locked)).bus.queue.map (·.body) = [.reply 18 .state (.remainingHold 2)]
    ∧ answers (.resume sv) (looped 4 .holdup (some .active) 200#8 false (withLock .releasable)) = [.locked]
    ∧ (withLock .releasable).takes sv = true ∧ (withLock .releasable).settled = true
    ∧ (withLock .releasable).intake = none ∧ (withLock .releasable).sup.service = .opened
    ∧ answers (.resume sv) (withLock .releasable) = [.done]
    ∧ answers (.resume sv) { closed with lockdown := (withLock .releasable).lockdown } = [.done] := by decide +kernel

/-- Returns or a giveback whose present a lockdown has put off; the escrow timer suspended. -/
def deferred (st : IntakeState) : Lane :=
  { withLock .releasable with
    intake := some { deposit st with presentDeferred := true, timer := .suspended 700 }
    transport := { opened.transport with stacker := ⟨.returned, 2, 0⟩ } }

theorem witness_ResumeIsTestedAndClearsTheLane_deferred :
    (deferred .returning).takes sv = true ∧ (deferred .returning).settled = true
    ∧ (deferred .returning).drawer.atEnd ≠ some .out ∧ answers (.resume sv) (deferred .returning) = [.done]
    ∧ ((deferred .returning).driver .drawerOut).latched.isEmpty = true
    ∧ ((deferred .returning).driver .drawerIn).latched.isEmpty = true
    ∧ (deferred .returning).drawer.position ≠ .jammed
    ∧ (deferred .givingBack).drawer.owner = none ∧ (deferred .givingBack).drawer.position = .home
    ∧ (deferred .givingBack).drawer.contents = .empty ∧ (deferred .givingBack).drawer.movement = none
    ∧ (deferred .givingBack).drawer.travel = none
    ∧ (after (.resume sv) (deferred .givingBack)).drawer.owner = some ⟨.giveback, 5⟩
    ∧ (after (.resume sv) (deferred .returning)).drawer.movement = some .extend
    ∧ (let out : Lane := { deferred .returning with drawer := { opened.drawer with position := .out, atEnd := some .out } }
       out.takes sv = true ∧ out.settled = true ∧ out.payout = none ∧ out.drawer.receiving = false
       ∧ (after (.resume sv) out).drawer.position = .out ∧ (after (.resume sv) out).drawer.take.isSome = true)
    ∧ (after (.resume sv) (deferred .held)).drawer.movement = none
    ∧ (after (.resume sv) (deferred .held)).intake.map (·.timer) = some (.running 100700) := by decide +kernel

/-- A RESUME of an OPEN lane with a payout in progress: its record, the RELEASE and answers of its jobs, the REPLY and
the STATUS (R55, R158). -/
theorem test_resume_of_an_open_lane :
    let l : Lane := { withLock .releasable with payout := some (pay .staged) }
    (after (.resume sv) l).journal.queue.map (·.record) = [.resume]
    ∧ (after (.resume sv) l).bus.queue.map (·.body)
        = [.reply 5 .state .empty, .reply 18 .done (.lanesLocked (Eight.replicate false)), .status none]
    ∧ (after (.resume sv) l).sup.service = .closed ∧ (after (.resume sv) l).payout = none := by decide +kernel

/-! ### Wall ledgers -/

theorem witness_PeerFramesAndTimesKeepTheTable :
    (15 : Station).val = 15 ∧ (0 : Station) = laneStation opened.sup.lane
    ∧ (after (.peerClaimHeard 15 .cash 1) { opened with bus := { opened.bus with mute := .drops 31 } }).bus.mute
        = .drops 32
    ∧ (8 ≤ (8 : Station).val ∧ (8 : Station).val ≠ 15) ∧ (8 ≤ (14 : Station).val ∧ (14 : Station).val ≠ 15)
    ∧ (1 : Station) = laneStation 1 ∧ (1 : LaneNo) ≠ opened.sup.lane ∧ (7 : Station) = laneStation 7
    ∧ (opened.ledgers.peer.get 1).state = .fresh ∧ (opened.ledgers.peer.get 7).state ≠ .fresh
    ∧ opened.envelope.phase = .noService
    ∧ ((withPeer { peer .unknown 0 with deadline := some 1 } opened).ledgers.peer.get 1).state = .unknown
    ∧ ((withPeer { peer .unknown 0 with deadline := some 1 } opened).ledgers.peer.get 1).deadline.isSome = true
    ∧ (opened.ledgers.peer.get 1).state ≠ .unknown := by decide

/-- A wall with lane 1 CLOSED and fresh at a W and an S. -/
def viewing (w c : Nat) : Lane :=
  withPeer { peer .fresh 0 with service := some .closed, wall := some w, safe := some c } opened

theorem witness_PeerFramesAndTimesKeepTheTable_views :
    ((viewing 19999 1501).ledgers.peer.get 1).state = .fresh
    ∧ ((viewing 19999 1501).ledgers.peer.get 1).service = some .closed
    ∧ (viewing 19999 1501).setupDone = true ∧ (viewing 19999 1501).settings.supervisor = some 9 := by decide +kernel

/-- The least limits, MISMATCH and its notice as an entry goes STALE, and a BEGIN repeated to a peer in SETUP (R106,
R169). -/
theorem test_views :
    (viewing 19999 1501).wallEff = 19999 ∧ (viewing 19999 1501).safeEff = 1500
    ∧ (viewing 19999 1501).mismatch = true ∧ (viewing 20000 1500).mismatch = false
    ∧ (after (.staleTimeout 1) (viewing 19999 1501)).wallEff = 20000
    ∧ (after (.staleTimeout 1) (viewing 19999 1501)).bus.queue.map (·.body)
        = [.notice (.mismatch 20000 1500 20000 1500 (Eight.replicate false))]
    ∧ (after (.staleTimeout 1) (viewing 20000 1500)).bus.queue = []
    ∧ (after (.peerStatusHeard 1 ⟨some .setup, some .clear, 0, 0, 20000, 1500⟩)
        { viewing 20000 1500 with envelope := { opened.envelope with phase := .begun } }).bus.queue.map (·.body)
        = [.serviceBegin false] := by decide +kernel

/-- CLAIMs and RELEASEs move a FRESH entry within 0 and 500,000 (R163, R166); the states of R164. -/
theorem test_peers :
    ((after (.peerClaimHeard 1 .cash 5000) opened).ledgers.peer.get 1).cash = 5000
    ∧ ((after (.peerClaimHeard 1 .cash 600000) opened).ledgers.peer.get 1).cash = 500000
    ∧ ((after (.peerReleaseHeard 1 .place 1) opened).ledgers.peer.get 1).places = 0
    ∧ ((after (.peerStatusHeard 7 ⟨some .opened, some .clear, 1, 2, 20000, 1500⟩) opened).ledgers.peer.get 7).state = .fresh
    ∧ ((after (.staleTimeout 1) opened).ledgers.peer.get 1).state = .stale
    ∧ ((after (.listenDeadline 1) (withPeer { peer .unknown 0 with deadline := some 1 } opened)).ledgers.peer.get 1).state
        = .stale
    ∧ (after .silenceTimerExpiry { opened with ledgers := { opened.ledgers with silence := some 1 } }).ledgers.isolated
        = true
    ∧ (after (.peerClaimHeard 0 .cash 1) opened).bus.mute = .clash := by decide +kernel

/-- The claim race of chapter 10 at lane 2: 0 + 5,000 + 18,000 is above 20,000, and 13,000 is not. -/
theorem test_claim_race :
    (after .cashClaimReadback (claiming (.claim .cash 100) false
      { withPeer { peer .fresh 0 with cash := 18000 } opened with
        payout := some { pay .claiming with amount := 5000 } })).payout = none
    ∧ (after .cashClaimReadback (claiming (.claim .cash 100) false
      { withPeer { peer .fresh 0 with cash := 13000 } opened with
        payout := some { pay .claiming with amount := 5000 } })).ledgers.cash = 5000 := by decide +kernel

/-! ### The wall bus -/

/-- The frame on the line has failed seven times. -/
def failing (b : TxBody) (l : Lane) : Lane :=
  { l with bus := { l.bus with queue := [{ onLine b with failed := 7 }], drops := 3 } }

theorem witness_AttemptsCarryFramesOrDropThem :
    (sendingNow [replyFrame]).bus.queue = replyFrame :: [] ∧ muted.bus.mute ≠ .no
    ∧ (sendingNow [replyFrame]).bus.mute = .no ∧ (sendingNow [replyFrame]).bus.breakTimer = none
    ∧ (∀ g ∈ (sendingNow [replyFrame]).bus.queue, g.onLine = false)
    ∧ (sendingNow [replyFrame]).sup.service ≠ .starting ∧ (sendingNow [replyFrame]).sup.service ≠ .failed
    ∧ (sendingNow [statusFrame]).bus.queue = statusFrame :: []
    ∧ (paying .staged).payout = some (pay .staged) ∧ claimFrame.body = .claim .cash 100
    ∧ (posting .staged false).envelope.path = .staged ∧ opened.bus.queue = [] ∧ opened.onLine? = none
    ∧ (claiming (.status none) false opened).onLine? = some (onLine (.status none))
    ∧ (onLine (.status none)).failed < 7 ∧ (onLine (.status none)).again = false
    ∧ (failing (.status none) opened).onLine?.map (·.failed) = some 7
    ∧ (failing (.claim .cash 100) (paying .claiming)).onLine?.map (·.body) = some (.claim .cash 100)
    ∧ (failing (.claim .place 1) (posting .claiming true)).envelope.record.map (·.abandoned) = some true
    ∧ (failing (.claim .place 1) (posting .claiming false)).envelope.record.map (·.abandoned) = some false
    ∧ (failing (.serviceBegin true) opened).openDoorLoop = none ∧ opened.settings.supervisor = some 9
    ∧ opened.ledgers.announce = none
    ∧ ({ opened with ledgers := { opened.ledgers with announce := some 1 } } : Lane).ledgers.announce.isSome = true := by
  decide +kernel

theorem witness_AttemptsCarryFramesOrDropThem_later :
    ({ paying .claiming with bus := (sendingNow [claimFrame]).bus } : Lane).bus.queue = claimFrame :: []
    ∧ (∀ p, (paying .claiming).payout = some p → p.state ≠ .staged)
    ∧ (posting .claiming false).envelope.path ≠ .staged
    ∧ (failing (.claim .cash 100) opened).payout = none
    ∧ (failing (.claim .place 1) opened).envelope.record = none
    ∧ (doorOpen (failing (.serviceBegin true) opened)).openDoorLoop = some 1
    ∧ (doorOpen (failing (.serviceBegin true) opened)).onLine?.map (·.failed) = some 7
    ∧ (claiming (.lockdown ⟨0, 1⟩) false opened).onLine? = some (onLine (.lockdown ⟨0, 1⟩)) := by
  refine ⟨by decide, ?_, by decide, by decide, by decide, by decide +kernel, by decide +kernel, by decide⟩
  intro p h
  cases h
  decide

/-- The eighth failed attempt drops the frame, the fourth drop in a row mutes the station, and 32 good frames
end that (R178, R179). -/
theorem test_attempts :
    (after .attemptFailed (failing (.status none) opened)).bus.mute = .drops 0
    ∧ answers .attemptFailed (failing (.claim .cash 100) (paying .claiming)) = [.line]
    ∧ (after .muteDropsEnd { opened with bus := { opened.bus with mute := .drops 32 } }).bus.mute = .no
    ∧ (after .muteDropsEnd { opened with bus := { opened.bus with mute := .drops 31 } }).bus.mute = .drops 31
    ∧ (after .attemptStart (sendingNow [replyFrame])).bus.queue.map (·.onLine) = [true]
    ∧ (after .arbitrationLost (after .attemptStart (sendingNow [replyFrame]))).bus.queue.map (·.onLine) = [false]
    ∧ (after .frameReadback (after .attemptStart (sendingNow [replyFrame]))).bus.queue = []
    ∧ (after .announceTimerExpiry { opened with ledgers := { opened.ledgers with announce := some 1 } }).bus.queue.length
        = 1 := by decide +kernel

/-- A frame with its own check. -/
def wire (kind : Fin 32) (source dest : Station) (payload : List Byte) : WireFrame :=
  WireFrame.sent (if kind.val = 0 then 0 else 1) source kind dest 5 payload

theorem witness_ReceivedFramesActAsTheirRows :
    opened.settled = true
    ∧ WireFrame.checkOk { wire 10 8 0 [] with check := 0 } = false
    ∧ (wire 10 8 0 []).payload.length = (wire 10 8 0 []).length.val ∧ WireFrame.checkOk (wire 10 8 0 []) = true
    ∧ (wire 10 8 0 []).source ≠ laneStation opened.sup.lane ∧ (wire 10 8 0 []).source.val ≠ 15
    ∧ WireFrame.checkOk (wire 1 0 15 [0, 0, 0, 1]) = true
    ∧ WireFrame.checkOk (wire 28 8 0 []) = true ∧ 28 ≤ (wire 28 8 0 []).kind.val
    ∧ WireFrame.checkOk (wire 5 8 0 [0, 0]) = true ∧ kindLength 5 ≠ some 2
    ∧ kindLength 0 = some 2 ∧ WireFrame.checkOk (wire 0 1 15 [1, 2]) = true
    ∧ kindLength 1 = some 4 ∧ quantityOf 0#8 = some .cash ∧ quantityOf 1#8 = some .place
    ∧ kindLength 3 = some 1 ∧ kindLength 4 = some 2 ∧ kindLength 27 = some 16 ∧ kindLength 25 = some 24
    ∧ kindLength 10 = some 0 ∧ kindLength 11 = some 1 ∧ kindLength 13 = some 2 ∧ kindLength 22 = some 2
    ∧ kindLength 23 = some 6 ∧ kindLength 24 = some 0 ∧ isRequestKind 10 = true
    ∧ WireFrame.checkOk (wire 10 8 1 []) = true := by decide +kernel

/-- A frame is whole, with a good check, of another station that is not number 15. -/
def good (f : WireFrame) (n : Nat) : Bool :=
  f.payload.length == f.length.val && WireFrame.checkOk f && f.source != laneStation opened.sup.lane
    && f.source.val != 15 && kindLength f.kind == some n

/-- Whole frames of every other kind that acts: RELEASE, the requests at lane 0, a ROLLCALL at 15. -/
theorem witness_ReceivedFramesActAsTheirRows_kinds :
    good (wire 2 1 15 [1, 0, 0, 1]) 4 = true ∧ good (wire 5 8 0 [0, 0, 100, 0]) 4 = true
    ∧ good (wire 6 8 0 []) 0 = true ∧ good (wire 7 8 0 [3]) 1 = true ∧ good (wire 8 8 0 []) 0 = true
    ∧ good (wire 9 8 0 []) 0 = true ∧ good (wire 12 9 0 [0, 0, 9, 0, 20]) 5 = true
    ∧ good (wire 13 8 0 [0, 0]) 2 = true ∧ good (wire 14 8 0 [0]) 1 = true ∧ good (wire 14 9 0 [1]) 1 = true
    ∧ good (wire 15 8 0 [0]) 1 = true ∧ good (wire 15 9 0 [1]) 1 = true ∧ good (wire 15 9 0 [2]) 1 = true
    ∧ good (wire 16 9 0 []) 0 = true ∧ good (wire 17 9 0 []) 0 = true ∧ good (wire 18 9 0 []) 0 = true
    ∧ good (wire 19 9 0 [1, 0]) 2 = true ∧ good (wire 19 9 0 [2, 1]) 2 = true ∧ good (wire 19 9 0 [3, 0]) 2 = true
    ∧ good (wire 20 9 0 []) 0 = true ∧ good (wire 21 9 0 []) 0 = true
    ∧ good (wire 22 8 15 [0x20, 0]) 2 = true ∧ (wire 22 8 15 [0x20, 0]).dest.val = 15
    ∧ good (wire 23 9 0 [0, 0, 0, 0, 0, 0]) 6 = true ∧ good (wire 24 9 0 []) 0 = true
    ∧ (wire 21 9 0 []).dest = laneStation closed.sup.lane ∧ closed.sup.service = .closed
    ∧ closed.settings.supervisor = some (wire 21 9 0 []).source ∧ (wire 3 15 0 [0]).source.val = 15 := by
  decide +kernel

/-- Whole frames with unknown payload codes: they refresh their sender's entry and do nothing else (log entry 3). -/
theorem witness_ReceivedFramesActAsTheirRows_codes :
    good (wire 1 1 15 [2, 0, 0, 1]) 4 = true ∧ good (wire 2 1 15 [2, 0, 0, 1]) 4 = true
    ∧ quantityOf 2#8 = none ∧ good (wire 3 1 15 [2]) 1 = true ∧ 1 < (2#8).toNat
    ∧ ((after (.frameReceived (wire 1 1 15 [2, 0, 0, 1])) opened).ledgers.peer.get 1).cash = 0
    ∧ (after (.frameReceived (wire 3 1 15 [2])) opened).envelope.service = none := by decide +kernel

/-- Frames act as their rows: LOCKDOWN, CLAIM, SLOT, a wrong length, an own number (R181, R182). -/
theorem test_frames :
    (after (.frameReceived (wire 0 1 15 [1, 2])) opened).lockdown.state = .locked
    ∧ ((after (.frameReceived (wire 1 1 15 [0, 0, 0x13, 0x88])) opened).ledgers.peer.get 1).cash = 5000
    ∧ (after (.frameReceived (wire 10 8 0 [])) opened).envelope.path = .staged
    ∧ answers (.frameReceived (wire 5 8 0 [0, 0])) opened = [.malformed]
    ∧ answers (.frameReceived (wire 28 8 0 [])) opened = [.malformed]
    ∧ (after (.frameReceived (wire 1 0 15 [0, 0, 0, 1])) opened).bus.mute = .clash
    ∧ (after (.frameReceived { wire 10 8 0 [] with check := 0 }) opened).envelope.path = .idle := by decide +kernel

end Sys2Proof.Tests
end

/-! PROOFS. Reset: the machine after reset (O3). -/

namespace Sys2Proof.Machine

/-! ### The machine after reset (R188) -/

/-- The peer table that the straps of lane 0 of a wall of one give (R163). -/
theorem Peer.table_alone (n : LaneNo) :
    (Peer.table 0 1).get n = Peer.afterReset (if n = 0 then .self else .absent) := by
  match n with
  | 0 | 1 | 2 | 3 | 4 | 5 | 6 | 7 => rfl

/-- Every driver's entry after reset: commanded off, diagnostics enabled, no condition held. -/
theorem State.reset_driver (d : Driver) :
    State.reset.lane.driver d = ⟨false, true, FaultSet.none, FaultSet.none, none, FaultSet.none⟩ :=
  Eight.get_replicate _ _

/-- The invariants hold after reset, which is the start of their induction over the steps. -/
theorem State.reset_invariants :
    State.reset.lane.cellsInv ∧ txInv State.reset.lane.bus.queue ∧ State.reset.lane.holdInv
      ∧ State.reset.lane.drawerInv ∧ State.reset.lane.cashInv ∧ State.reset.lane.serviceInv := by
  refine ⟨State.reset_cells_wf, ?queue, ?hold, rfl, .inl rfl, ?service⟩
  case queue => exact ⟨by decide, by decide, by decide, rfl, by decide⟩
  case hold => exact ⟨fun h => (by cases h), fun h => (by cases h)⟩
  case service => exact ⟨fun h => (by cases h), fun _ => ⟨rfl, rfl⟩⟩

/-- Settles O3: each field by the value that `Lane.afterReset` gives it, the tables entry by entry. -/
theorem resetStateHoldsValuesAndInvariants : Obligations.ResetStateHoldsValuesAndInvariants := by
  unfold Obligations.ResetStateHoldsValuesAndInvariants
  have tables {α : Type} (x : α) (i : Position) : (Four.replicate x).get i = x := Four.get_replicate x i
  have rows {α : Type} (x : α) (n : Fin 8) : (Eight.replicate x).get n = x := Eight.get_replicate x n
  refine ⟨⟨rfl, rfl, rfl, rfl, rfl, rows _, rfl, rfl, tables _, rfl, rows _, tables _, tables _, rfl, rfl,
    rfl, rfl, rfl, rfl, ?peers, rfl, rfl, rows _, rfl, rfl, rfl, ?drivers, rfl, tables _, rows _, rows _,
    fun d => rows _ d.index⟩, State.reset_invariants⟩
  case peers =>
    intro n
    exact Peer.table_alone n
  case drivers =>
    intro d
    refine ⟨State.reset_driver d, ?_⟩
    rw [State.reset_driver]
    rfl
end Sys2Proof.Machine

/-! PROOFS. Cassettes: INVENTORY, RESTOCK and the presence sensors (O27, O28, O29). -/

namespace Sys2Proof.Machine

/-! ### The commands of the cassette table and their meanings -/

theorem exec_inventory (h : Sender) (sel : Byte) (q : List Instr) (l : Lane) :
    exec (.inventory h sel) ⟨q, l⟩ = .next ⟨q, l.take h (fun l => l.inventoryRequest h sel)⟩ := rfl

theorem exec_restock (h : Sender) (target : Byte) (count denomination : Nat) (q : List Instr) (l : Lane) :
    exec (.restock h target count denomination) ⟨q, l⟩
      = .next ⟨q, l.take h (fun l => l.restockRequest h target count denomination)⟩ := rfl

theorem exec_cassetteRemoval (i : Position) (q : List Instr) (l : Lane) :
    exec (.cassetteRemoval i) ⟨q, l⟩ = .next ⟨q, (l.cassetteRemoved i).settleRun⟩ := rfl

theorem exec_cassetteInsertion (i : Position) (q : List Instr) (l : Lane) :
    exec (.cassetteInsertion i) ⟨q, l⟩ = .next ⟨q, l.cassetteInserted i⟩ := rfl

/-- SETUP_DONE has been accepted in CLOSED and OPEN (R192). -/
theorem Lane.setupDone_iff (l : Lane) : l.setupDone = true ↔ l.sup.service = .closed ∨ l.sup.service = .opened := by
  simp [Lane.setupDone]

theorem Four.set_get_self {α : Type} (t : Four α) (i : Position) : t.set i (t.get i) = t := by
  match i with
  | 0 | 1 | 2 | 3 => rfl

/-! ### INVENTORY (R15) -/

/-- Settles O27: one branch for each kind of selector. -/
theorem inventoryReportsItsSelection : Obligations.InventoryReportsItsSelection := by
  unfold Obligations.InventoryReportsItsSelection
  intro h sel q l taken
  have selects (k : Nat) (hk : k < 256) : sel.toNat = k ↔ sel = BitVec.ofNat 8 k := by
    rw [← BitVec.toNat_inj, BitVec.toNat_ofNat, Nat.mod_eq_of_lt hk]
  rw [exec_inventory, Lane.take_of_takes l h _ taken]
  unfold Lane.inventoryRequest
  simp only [Lane.reply_eq, selects 5 (by decide), selects 4 (by decide), Bool.not_eq_true',
    ← Bool.not_eq_true, Lane.setupDone_iff, not_or, ← apply_ite (fun o => Lane.sending l [o])]
  rfl

/-! ### RESTOCK (R13, R14) -/

/-- RESTOCK of the supervisor console reaches its own tests. -/
theorem exec_restock_of_supervisor (h : Sender) (target : Byte) (count denomination : Nat) (q : List Instr)
    (l : Lane) (sup : l.fromSupervisor h = true) :
    exec (.restock h target count denomination) ⟨q, l⟩ = .next ⟨q,
      let d := if denomination = 0 then none else some denomination
      if l.sup.service ≠ .closed ∨ 4 < target.toNat then l.reply h kindRestock .state
      else if target.toNat = 4 then l.restockBin h count d
      else l.restockPosition h (Fin.ofNat 4 target.toNat) count d⟩ := by
  rw [exec_restock]
  have reaches := fun f => l.supervised_eq h kindRestock f sup
  unfold Lane.restockRequest
  rw [reaches]

/-- The record of an accepted RESTOCK joins under a reservation of one slot (R14, R116, R123). -/
theorem Lane.recordRestock_eq (l : Lane) (h : Sender) (target : Option Position) (d : Option Nat) (count : Nat) :
    l.recordRestock h target d count =
      let base := l.reserving (l.journal.reserved + 1)
      { base.sending [replyTo h 12 .done] with
        journal := { base.journal with queue := l.journal.queue ++
          [{ record := .restock target d count, seconds := l.wallSeconds, reserved := true }] } } := by
  unfold Lane.recordRestock Lane.joinReserved
  rw [Lane.reserve_eq, Lane.reply_eq]
  have queue : (l.reserving (l.journal.reserved + 1)).journal.queue = l.journal.queue := by
    simp only [Lane.reserving_frame, Journal.withReserved]
    split <;> rfl
  have seconds : (l.reserving (l.journal.reserved + 1)).wallSeconds = l.wallSeconds := rfl
  simp only [Lane.enqueue, queue, seconds]
  rfl

/-- The state a RESTOCK derives from an acceptable count (R2, R14). -/
theorem Cassette.derive_of_accepted (c : Cassette) (count : Nat) (d : Option Nat) (ok : c.accepts count d = true) :
    ({ c with count := count } : Cassette).derive =
      if count = 0 then .empty else if count = c.capacity then .full
      else if (c.mode == .dispense || c.mode == .recycle) && count ≤ c.lowMark then .low else .ok := by
  unfold Cassette.derive
  rcases hm : c.mode <;> simp_all [Cassette.accepts]

/-- The count and denomination of a RESTOCK are refused by the test of R13 for the mode. -/
theorem Cassette.not_accepts (c : Cassette) (count : Nat) (d : Option Nat) (used : c.mode ≠ .unused) :
    (!c.accepts count d) =
      if (c.mode == .dispense || c.mode == .recycle) = true
      then decide (c.capacity < count) || d == none || d != c.denomination
      else count != 0 || d != none := by
  have above : decide (c.capacity < count) = !decide (count ≤ c.capacity) := by
    rw [← decide_not, decide_eq_decide, Nat.not_le]
  unfold Cassette.accepts
  rw [above]
  rcases hm : c.mode <;> rcases d with _ | d <;> simp_all [bne, Bool.beq_eq_decide_eq]

/-- The tests of a RESTOCK of a position, in the order of R13. -/
def Lane.restockTests (l : Lane) (c : Cassette) (count : Nat) (d : Option Nat) : List (Bool × ReplyCode) :=
  [(c.mode == .unused, .state), (l.payout.isSome || l.intake.isSome, .busy), (c.state == .out, .unavailable),
   (if (c.mode == .dispense || c.mode == .recycle) = true
    then decide (c.capacity < count) || d == none || d != c.denomination
    else count != 0 || d != none, .range),
   (!l.canReserve 1, .journal)]

/-- A table of tests as the chain of its answers. -/
theorem firstFailing_cons_elim {α β : Type} (fails : Bool) (answer : β) (rest : List (Bool × β)) (pass : α)
    (refuse : β → α) :
    (firstFailing ((fails, answer) :: rest)).elim pass refuse =
      if fails = true then refuse answer else (firstFailing rest).elim pass refuse :=
  apply_ite (fun o => Option.elim o pass refuse) _ _ _

/-- A table passes when no test of it fails. -/
theorem firstFailing_eq_none {β : Type} (tests : List (Bool × β)) :
    firstFailing tests = none ↔ ∀ t ∈ tests, t.1 = false := by
  induction tests with
  | nil => simp [firstFailing]
  | cons t rest ih =>
    obtain ⟨fails, answer⟩ := t
    cases fails <;> simp [firstFailing, ih]

/-- A RESTOCK of a position that passes its tests has an acceptable count and denomination. -/
theorem Lane.accepts_of_restockTests (l : Lane) (c : Cassette) (count : Nat) (d : Option Nat)
    (passes : firstFailing (l.restockTests c count d) = none) : c.accepts count d = true := by
  rw [firstFailing_eq_none] at passes
  have used : c.mode ≠ .unused := by simpa using passes (c.mode == .unused, .state) (by simp [Lane.restockTests])
  have range := passes (!c.accepts count d, .range) (by simp [Lane.restockTests, Cassette.not_accepts _ _ _ used])
  simpa using range

/-- The first failing test answers a RESTOCK of a position; one that passes them sets the count (R13, R14). -/
theorem Lane.restockPosition_eq (l : Lane) (h : Sender) (i : Position) (count : Nat) (d : Option Nat) :
    l.restockPosition h i count d = (firstFailing (l.restockTests (l.cass.entry.get i) count d)).elim
      ((l.recordRestock h (some i) d count).setCassette i ((l.cass.entry.get i).restocked count))
      (fun code => l.sending [replyTo h 12 code]) := by
  unfold Lane.restockPosition Lane.restockTests
  simp only [firstFailing_cons_elim, beq_iff_eq]
  split
  · rfl
  · next used => rw [← Cassette.not_accepts _ count d used]; rfl

/-- The tests of a RESTOCK of the bin, in the order of R13. -/
def Lane.restockBinTests (l : Lane) (count : Nat) (d : Option Nat) : List (Bool × ReplyCode) :=
  [(l.payout.isSome || l.intake.isSome, .busy), (count != 0 || d != none, .range), (!l.canReserve 1, .journal)]

/-- The first failing test answers a RESTOCK of the bin; one that passes them empties it (R13, R14). -/
theorem Lane.restockBin_eq (l : Lane) (h : Sender) (count : Nat) (d : Option Nat) :
    l.restockBin h count d = (firstFailing (l.restockBinTests count d)).elim
      ((l.recordRestock h none none 0).setBin { l.cass.bin with count := 0 })
      (fun code => l.sending [replyTo h 12 code]) := by
  have range : (count ≠ 0 ∨ d.isSome = true) = ((count != 0 || d != none) = true) := by
    cases d <;> simp
  unfold Lane.restockBin Lane.restockBinTests
  simp only [firstFailing_cons_elim, range]
  rfl

/-- An acceptable RESTOCK joins its record and its REPLY, and the entry is set with its notice (R2, R12, R14). -/
theorem Lane.restockPosition_accepted (l : Lane) (h : Sender) (i : Position) (count : Nat) (d : Option Nat)
    (ok : (l.cass.entry.get i).accepts count d = true) :
    let base := l.reserving (l.journal.reserved + 1)
    let c := l.cass.entry.get i
    let state : CassState := if count = 0 then .empty else if count = c.capacity then .full
      else if (c.mode == .dispense || c.mode == .recycle) && count ≤ c.lowMark then .low else .ok
    (l.recordRestock h (some i) d count).setCassette i (c.restocked count) =
      { base.sending (replyTo h 12 .done ::
          (if state = c.state then [] else l.toBoth (.cassetteChange (some i) (.inl state) none count))) with
        cass := { l.cass with entry := l.cass.entry.set i { c with
          count := count, value := if c.mode = .deposit then some 0 else c.value, badRun := 0, cause := none
          state := state } }
        journal := { base.journal with queue := l.journal.queue ++
          [{ record := .restock (some i) d count, seconds := l.wallSeconds, reserved := true }] } } := by
  intro base c state
  have entry : c.restocked count = { c with
      count := count, value := if c.mode = .deposit then some 0 else c.value, badRun := 0, cause := none
      state := state } := by
    unfold Cassette.restocked
    simp only [state, ← Cassette.derive_of_accepted c count d ok]
    rfl
  rw [entry, Lane.setCassette_eq, Lane.recordRestock_eq]
  rfl

/-- Settles O28: the tests are the chain of R13, and what passes them is the record and the entry. -/
theorem restockTestsAndSetsCount : Obligations.RestockTestsAndSetsCount := by
  unfold Obligations.RestockTestsAndSetsCount
  intro h target count denomination q l sup d base
  rw [exec_restock_of_supervisor h target count denomination q l sup]
  refine ⟨?refused, ?position, ?bin⟩
  case refused =>
    intro barred
    simp only [if_pos barred]
    rfl
  case position =>
    intro i closed at_ c pays tests state after
    have low : ¬(l.sup.service ≠ .closed ∨ 4 < target.toNat) := by simp [closed, at_]
    have other : target.toNat ≠ 4 := by omega
    have numbered : Fin.ofNat 4 target.toNat = i := by rw [at_]; exact Fin.ofNat_val_eq_self i
    have course := l.restockPosition_eq h i count d
    simp only [if_neg low, if_neg other, numbered]
    refine ⟨fun code fails => ?_, fun passes => ?_⟩
    · rw [course, show firstFailing (l.restockTests c count d) = some code from fails]
      rfl
    · rw [course, show firstFailing (l.restockTests c count d) = none from passes, Option.elim,
        l.restockPosition_accepted h i count d (l.accepts_of_restockTests c count d passes)]
  case bin =>
    intro closed at_ tests emptied
    have low : ¬(l.sup.service ≠ .closed ∨ 4 < target.toNat) := by simp [closed, at_]
    have course := l.restockBin_eq h count d
    simp only [if_neg low, if_pos at_]
    refine ⟨fun code fails => ?_, fun passes => ?_⟩
    · rw [course, show firstFailing (l.restockBinTests count d) = some code from fails]
      rfl
    · rw [course, show firstFailing (l.restockBinTests count d) = none from passes, Option.elim,
        Lane.setBin_eq, Lane.recordRestock_eq]
      rfl

/-! ### Removals and insertions (R10, R43) -/

/-- The table with a presence reading, and an entry as it was. -/
theorem Lane.setPresent_eq (l : Lane) (i : Position) (present : Bool) :
    l.setPresent i present = { l with cass := { l.cass with
      entry := l.cass.entry.set i (l.cass.entry.get i), present := l.cass.present.set i present } } := by
  rw [Four.set_get_self]
  rfl

/-- A presence reading and the change of the entry there, with its notice (R10, R12). -/
theorem Lane.setPresent_setCassette (l : Lane) (i : Position) (present : Bool) (x : Cassette) :
    (l.setPresent i present).setCassette i x =
      { l.sending (if x.state = (l.cass.entry.get i).state then []
          else l.toBoth (.cassetteChange (some i) (.inl x.state) x.cause x.count)) with
        cass := { l.cass with entry := l.cass.entry.set i x, present := l.cass.present.set i present } } := by
  rw [Lane.setCassette_eq]
  rfl

/-- With notes in the path, or short of its amount, a payout that loses a position goes on, and no drawer run
starts (R43). -/
theorem Lane.checkLost_settleRun (l : Lane) (settled : l.settled = true)
    (short : ∀ p, l.payout = some p → l.transport.path ≠ [] ∨ p.stackedValue ≠ p.amount) :
    l.checkLost.settleRun = l.positionLost := by
  rw [l.checkLost_eq short]
  exact Lane.settleRun_of_settled _ (l.positionLost_settled settled).1

/-- A removal marks a used cassette that is not OUT, and only such a one (R10). -/
theorem Lane.cassetteRemoved_eq (l : Lane) (i : Position) :
    l.cassetteRemoved i =
      if l.setupDone = true ∧ (l.cass.entry.get i).mode ≠ .unused ∧ (l.cass.entry.get i).state ≠ .out then
        ((l.setPresent i false).setCassette i
          { l.cass.entry.get i with state := .out, cause := some .removed }).checkLost
      else l.setPresent i false := by
  have same : (l.setPresent i false).setupDone = l.setupDone := rfl
  have entry : (l.setPresent i false).cass.entry = l.cass.entry := rfl
  unfold Lane.cassetteRemoved
  simp only [same, entry]
  by_cases marks : l.setupDone = true ∧ (l.cass.entry.get i).mode ≠ .unused ∧ (l.cass.entry.get i).state ≠ .out
  · rw [if_pos marks, if_neg (by simp [marks])]
  · rw [if_neg marks, if_pos (by simpa [or_assoc, Classical.or_iff_not_imp_left] using marks)]

/-- An insertion marks a used cassette that is OUT, and only such a one (R10). -/
theorem Lane.cassetteInserted_eq (l : Lane) (i : Position) :
    l.cassetteInserted i =
      if l.setupDone = true ∧ (l.cass.entry.get i).mode ≠ .unused ∧ (l.cass.entry.get i).state = .out then
        (l.setPresent i true).setCassette i { l.cass.entry.get i with state := .suspect }
      else l.setPresent i true := by
  have same : (l.setPresent i true).setupDone = l.setupDone := rfl
  have entry : (l.setPresent i true).cass.entry = l.cass.entry := rfl
  unfold Lane.cassetteInserted
  simp only [same, entry]
  by_cases marks : l.setupDone = true ∧ (l.cass.entry.get i).mode ≠ .unused ∧ (l.cass.entry.get i).state = .out
  · rw [if_pos marks, if_neg (by simp [marks])]
  · rw [if_neg marks, if_pos (by simpa [or_assoc, Classical.or_iff_not_imp_left] using marks)]

/-- Settles O29: an event marks the entry, with its notice, or only the presence reading changes. -/
theorem presenceEventsMarkTheCassette : Obligations.PresenceEventsMarkTheCassette := by
  unfold Obligations.PresenceEventsMarkTheCassette
  intro i q l c used gone back cassAfter news
  have uses : used ↔ l.setupDone = true ∧ c.mode ≠ .unused := by simp only [used, Lane.setupDone_iff]
  rw [exec_cassetteRemoval, exec_cassetteInsertion, Lane.cassetteRemoved_eq, Lane.cassetteInserted_eq]
  constructor
  · by_cases marks : used ∧ c.state ≠ .out
    · have marked : gone = { c with state := .out, cause := some .removed } := if_pos marks
      rw [if_pos ⟨(uses.mp marks.1).1, (uses.mp marks.1).2, marks.2⟩, marked]
      have changed : ¬CassState.out = (l.cass.entry.get i).state := fun e => marks.2 e.symm
      rw [Lane.setPresent_setCassette, if_neg changed]
      refine ⟨_, rfl, by simp [cassAfter, c], fun settled short => ?_⟩
      simp only [news, c, if_neg changed]
      exact Lane.checkLost_settleRun _ settled short
    · have unmarked : gone = c := if_neg marks
      rw [if_neg (fun h => marks ⟨uses.mpr ⟨h.1, h.2.1⟩, h.2.2⟩), unmarked]
      refine ⟨_, rfl, by simp [Lane.setPresent_eq, cassAfter, c], fun settled short => ?_⟩
      simp only [news, if_true, Lane.sending_nil]
      rw [Lane.settleRun_of_settled (l.setPresent i false) settled]
      exact l.setPresent_eq i false
  · by_cases marks : used ∧ c.state = .out
    · have marked : back = { c with state := .suspect } := if_pos marks
      rw [if_pos ⟨(uses.mp marks.1).1, (uses.mp marks.1).2, marks.2⟩, marked,
        Lane.setPresent_setCassette]
    · have unmarked : back = c := if_neg marks
      rw [if_neg (fun h => marks ⟨uses.mpr ⟨h.1, h.2.1⟩, h.2.2⟩), unmarked]
      simp only [news, if_true, Lane.sending_nil]
      rw [Lane.setPresent_eq]

end Sys2Proof.Machine

/-! PROOFS. Payout results: a check result takes the oldest note out of the path (O34). -/

namespace Sys2Proof.Machine

/-! ### The lane's ends of a payout and of OPEN -/

theorem Journal.withReserved_queue (j : Journal) (n : Nat) : (j.withReserved n).queue = j.queue := by
  unfold Journal.withReserved
  split <;> rfl

/-- Returned slots change the reservation, the journal's state and the transmit queue alone (R122, R123). -/
@[simp] theorem Lane.returning_frame (l : Lane) (n : Nat) :
    (l.returning n).sup = l.sup ∧ (l.returning n).settings = l.settings ∧ (l.returning n).cass = l.cass
    ∧ (l.returning n).transport = l.transport ∧ (l.returning n).payout = l.payout
    ∧ (l.returning n).intake = l.intake ∧ (l.returning n).envelope = l.envelope
    ∧ (l.returning n).journal.queue = l.journal.queue ∧ (l.returning n).loops = l.loops
    ∧ (l.returning n).lockdown = l.lockdown ∧ (l.returning n).ledgers = l.ledgers := by
  unfold Lane.returning
  split
  · simp
  · simp [Journal.withReserved_queue]

/-- The frames of a change of the journal state are NOTICE JOURNAL frames. -/
theorem Lane.journalNews_only (l : Lane) (j : Journal) : journalNoticesOnly (l.journalNews j) = true := by
  have one : ∀ c e n, journalNoticesOnly (toConsole c 0 (.journal e n)) = true := by
    intro c e n
    cases c <;> rfl
  unfold Lane.journalNews
  split
  · rfl
  · split
    · rfl
    · unfold Lane.toBoth
      split
      · exact one _ _ _
      · unfold journalNoticesOnly at one ⊢
        rw [List.all_append, one, one, Bool.and_self]

/-- Returned slots queue NOTICE JOURNAL frames at most (R123). -/
theorem Lane.returning_queue (l : Lane) (n : Nat) : ∃ more, journalNoticesOnly more = true
    ∧ (l.returning n).bus.queue = queued l.bus.queue more := by
  unfold Lane.returning
  split
  · exact ⟨[], rfl, rfl⟩
  · exact ⟨_, l.journalNews_only _, rfl⟩

/-- What the end of a payout past its claim changes and leaves, and what it queues (R45, R46, R48, R56). -/
theorem Lane.payoutOver_frame (l : Lane) (p : Payout) (r : Record) (n : Notice) :
    let m := l.payoutOver p r n
    m.payout = none ∧ m.ledgers.cash = 0
    ∧ m.transport = { l.transport with pickList := [], halted := false, lost := none, remix := none }
    ∧ m.cass = l.cass
    ∧ m.journal.queue = l.journal.queue ++ [{ record := r, seconds := l.wallSeconds, reserved := true }]
    ∧ m.sup = l.sup ∧ m.settings = l.settings ∧ m.drawer.position = l.drawer.position
    ∧ m.drawer.contents = l.drawer.contents ∧ m.intake = l.intake ∧ m.envelope = l.envelope
    ∧ m.lockdown = l.lockdown ∧ m.loops = l.loops := by
  unfold Lane.payoutOver
  generalize hx : ({ l.sending [toEvery (.release .cash p.amount) p.tag, ⟨.notice n, p.console, p.tag⟩] with
    payout := none
    ledgers := { l.ledgers with cash := 0 }
    transport := { l.transport with pickList := [], halted := false, lost := none, remix := none }
    journal := { l.journal with queue := l.journal.queue ++
      [{ record := r, seconds := l.wallSeconds, reserved := true }] } } : Lane) = x
  obtain ⟨sup, settings, cass, transport, payout, intake, envelope, queue, loops, lockdown, ledgers⟩ :=
    x.returning_frame (p.slots - 1)
  have owner : ∀ d : Drawer, (match d.owner with
      | some o => if o.kind = OwnerKind.payout then { d with owner := none, receiving := false } else d
      | none => d).position = d.position ∧ (match d.owner with
      | some o => if o.kind = OwnerKind.payout then { d with owner := none, receiving := false } else d
      | none => d).contents = d.contents := by
    intro d
    repeat' split
    all_goals exact ⟨rfl, rfl⟩
  subst hx
  exact ⟨payout, congrArg Ledgers.cash ledgers, transport, cass, queue, sup, settings, (owner _).1, (owner _).2,
    intake, envelope, lockdown, loops⟩

/-- The frames that the end of a payout queues: RELEASE, its notice, and NOTICE JOURNAL of returned slots. -/
theorem Lane.payoutOver_queue (l : Lane) (p : Payout) (r : Record) (n : Notice) :
    ∃ more, journalNoticesOnly more = true ∧ (l.payoutOver p r n).bus.queue = queued l.bus.queue
      (toEvery (.release .cash p.amount) p.tag :: ⟨.notice n, p.console, p.tag⟩ :: more) :=
  Lane.returning_queue _ _

/-- A lane without a payout in STAGED or CLAIMING and without an envelope record closes none of its jobs. -/
theorem Lane.jobsClosed_idle (l : Lane) (payout : l.payout = none) (record : l.envelope.record = none) :
    l.jobsClosed = l := by
  unfold Lane.jobsClosed
  simp [payout, record]

/-- Leaving OPEN keeps the write queue, and gives no lane a payout (R55, R105). -/
theorem Lane.jobsClosed_keeps (l : Lane) (payout : l.payout = none) :
    l.jobsClosed.payout = none ∧ l.jobsClosed.journal.queue = l.journal.queue := by
  have claim : (l.abandonClaim .place).payout = none ∧ (l.abandonClaim .place).journal = l.journal := by simp [payout]
  unfold Lane.jobsClosed
  simp only [payout]
  repeat' split
  all_goals simp [payout]

/-- Shutter and lamp change the driver bank alone (R148). -/
theorem Lane.shown_frame (l : Lane) : l.shown.sup = l.sup ∧ l.shown.payout = l.payout ∧ l.shown.journal = l.journal
    ∧ l.shown.bus = l.bus ∧ l.shown.transport = l.transport ∧ l.shown.cass = l.cass := by
  rw [← Lane.followLane_eq]
  unfold Lane.followLane Lane.followLamp Lane.switchLamp
  repeat' split
  all_goals exact ⟨rfl, rfl, rfl, rfl, rfl, rfl⟩

theorem Lane.closedFor_sup (l : Lane) (c : Causes) : (l.closedFor c).sup =
    { l.sup with causes := c, service := if l.sup.service = .opened then .closed else l.sup.service } :=
  Lane.asClosed_sup { l with sup := { l.sup with causes := c } }

/-- What closing a lane without a payout leaves as it was (R188). -/
theorem Lane.closedFor_frame (l : Lane) (c : Causes) (payout : l.payout = none) :
    let m := l.closedFor c
    m.payout = none ∧ m.ledgers.cash = l.ledgers.cash ∧ m.transport = l.transport ∧ m.cass = l.cass
    ∧ m.journal.queue = l.journal.queue ∧ m.sup.causes = c
    ∧ m.sup.service = (if l.sup.service = .opened then .closed else l.sup.service)
    ∧ m.sup.homing = l.sup.homing
    ∧ m.drawer = l.drawer ∧ m.intake = l.intake ∧ m.lockdown = l.lockdown ∧ m.settings = l.settings
    ∧ m.loops = l.loops := by
  have keeps : (l.closedFor c).payout = none ∧ (l.closedFor c).journal.queue = l.journal.queue := by
    unfold Lane.closedFor Lane.asClosed
    dsimp only
    split
    · generalize hx : ({ l with sup := { l.sup with causes := c, service := .closed } } : Lane) = x
      have none_left : x.payout = none := by rw [← hx]; exact payout
      have same : x.journal.queue = l.journal.queue := by rw [← hx]
      obtain ⟨-, shown_payout, shown_journal, -⟩ := x.jobsClosed.shown_frame
      obtain ⟨closed_payout, closed_queue⟩ := x.jobsClosed_keeps none_left
      simp only [Lane.sending_frame, shown_payout, shown_journal, closed_payout, closed_queue, same, and_self]
    · exact ⟨payout, rfl⟩
  have sup := l.closedFor_sup c
  have frame := Lane.leaveOpen_frame { l with sup := { l.sup with causes := c } }
  rw [Lane.leaveOpen_eq] at frame
  obtain ⟨-, -, -, -, -, -, settings, cass, transport, drawer, intake, -, loops, lockdown, cash, -⟩ := frame
  exact ⟨keeps.1, cash, transport, cass, keeps.2, by rw [sup], by rw [sup], by rw [sup], drawer, intake, lockdown,
    settings, loops⟩

/-- Closing a lane with no payout and no envelope record queues a STATUS where it was OPEN (R172, R188). -/
theorem Lane.closedFor_queue (l : Lane) (c : Causes) (payout : l.payout = none)
    (idle : l.sup.service ≠ .opened ∨ l.envelope.record = none) :
    (l.closedFor c).bus.queue = queued l.bus.queue
      (if l.sup.service = .opened then [toEvery (.status none) 0] else []) := by
  unfold Lane.closedFor Lane.asClosed
  by_cases opened : l.sup.service = .opened
  · have record := idle.resolve_left (fun h => h opened)
    have jobs := Lane.jobsClosed_idle
      ({ l with sup := { l.sup with causes := c, service := .closed } } : Lane) payout record
    simp only [opened, if_true, jobs]
    exact congrArg (fun b : Bus => queued b.queue _) (Lane.shown_frame _).2.2.2.1
  · simp only [opened, if_false]
    rfl

/-- A lane that closes ends no drawer run that it did not end before (R59, R190). -/
theorem Lane.settled_of_runs (l m : Lane) (h : l.settled = true) (drawer : m.drawer = l.drawer)
    (homes : m.homes = l.homes) (homing : m.sup.homing = l.sup.homing) : m.settled = true := by
  unfold Lane.settled Lane.runEnds Lane.homesIn at *
  rw [drawer, homes, homing]
  exact h

theorem Lane.closedFor_homes (l : Lane) (c : Causes) : (l.closedFor c).homes = l.homes := by
  unfold Lane.homes
  rw [Lane.closedFor_sup]
  cases l.sup.service <;> rfl

theorem Lane.closedFor_settled (l : Lane) (c : Causes) (h : l.settled = true) : (l.closedFor c).settled = true := by
  refine l.settled_of_runs _ h ?_ (l.closedFor_homes c) ?_
  · have frame := Lane.leaveOpen_frame { l with sup := { l.sup with causes := c } }
    rw [Lane.leaveOpen_eq] at frame
    obtain ⟨-, -, -, -, -, -, -, -, -, drawer, -⟩ := frame
    exact drawer
  · rw [l.closedFor_sup c]

/-! ### The course of a payout after a result -/

/-- A payout that is not PICKING loses no position (R43). -/
theorem Lane.checkLost_of_not_picking (l : Lane) (p : Payout) (hp : l.payout = some p) (hs : p.state ≠ .picking) :
    l.checkLost = l ∧ l.positionLost.remixAsked = l := by
  have lost : l.positionLost = l := by
    rw [Lane.positionLost_def, hp]
    cases l.transport.pickList.find? l.lostEntry with
    | none => rfl
    | some e => exact if_neg (fun h => hs h.1)
  constructor
  · unfold Lane.checkLost
    simp [hp, hs]
  · rw [lost]
    unfold Lane.remixAsked
    simp [hp, hs]

/-- A payout in PURGING stays so while the note path or the stacker holds notes, and is over without any (R46). -/
theorem Lane.progress_purging (l : Lane) (p : Payout) (hp : l.payout = some p) (hs : p.state = .purging) :
    (l.transport.path ≠ [] ∨ l.transport.stacker.notes ≠ 0 → l.progress = l.positionLost.remixAsked)
    ∧ (l.transport.path = [] → l.transport.stacker.notes = 0 → l.progress =
      l.payoutOver p (.purge (p.outcome.getD .failedJam).reason p.drawn p.binned)
        (.payoutFailed (p.outcome.getD .failedJam) p.binned)) := by
  obtain ⟨check, lost⟩ := l.checkLost_of_not_picking p hp (by simp [hs])
  have same : ({ l with payout := some p } : Lane) = l := by rw [← hp]
  unfold Lane.progress
  dsimp only
  rw [check, lost, hp]
  unfold Lane.drained Lane.purgeIfDone Lane.endPurged
  simp only [hs, Lane.endPayout_eq, same, beq_self_eq_true, if_true]
  refine ⟨fun notes => ?_, fun path stacker => by simp [path, stacker]⟩
  by_cases path : l.transport.path = []
  · simp [path, notes.resolve_left (fun h => h path)]
  · simp [path]

/-- What follows a result: the payout goes on, or its purge is over (R40, R43, R46). -/
theorem Lane.progress_settleRun (l : Lane) (p : Payout) (hp : l.payout = some p) (settled : l.settled = true) :
    (l.transport.path ≠ [] ∨ (p.state = .picking ∧ ¬l.positionLost.quotasMet p)
        ∨ (p.state = .purging ∧ l.transport.stacker.notes ≠ 0) →
      l.progress.settleRun = l.positionLost.remixAsked)
    ∧ (l.transport.path = [] → p.state = .purging → l.transport.stacker.notes = 0 →
      l.progress.settleRun = l.payoutOver p (.purge (p.outcome.getD .failedJam).reason p.drawn p.binned)
        (.payoutFailed (p.outcome.getD .failedJam) p.binned)) := by
  constructor
  · intro goes
    have on : l.progress = l.positionLost.remixAsked := by
      rcases goes with path | unmet | ⟨purging, notes⟩
      · exact l.progress_eq p hp (.inl path)
      · exact l.progress_eq p hp (.inr unmet)
      · exact (l.progress_purging p hp purging).1 (.inr notes)
    rw [on]
    exact Lane.settleRun_of_settled _ (l.positionLost_settled settled).2
  · intro path purging notes
    rw [(l.progress_purging p hp purging).2 path notes]
    exact Lane.settleRun_of_settled _ (l.payoutOver_settled _ _ _ settled)

/-- A payout sent to PURGING in a lane whose drawer waits for an event (R42, R46, R61). -/
theorem Lane.purge_settleRun (l : Lane) (p : Payout) (o : PayoutOutcome) (settled : l.settled = true) :
    (l.transport.path ≠ [] ∨ l.transport.stacker.notes ≠ 0 → (l.purge p o).settleRun = l.purging p o)
    ∧ (l.transport.path = [] → l.transport.stacker.notes = 0 →
      (l.purge p o).settleRun = ({ l with drawer := { l.drawer with waiting := false } } : Lane).payoutOver p
        (.purge o.reason p.drawn p.binned) (.payoutFailed o p.binned)) := by
  obtain ⟨purges, ends⟩ := l.purge_eq p o
  constructor
  · intro notes
    rw [purges notes]
    exact Lane.settleRun_of_settled _ (l.settled_congr _ settled rfl rfl rfl)
  · intro path notes
    rw [ends path notes]
    exact Lane.settleRun_of_settled _ (Lane.payoutOver_settled _ _ _ _ (l.settled_congr _ settled rfl rfl rfl))

/-- What a refused note of a payout leaves: the payout is over with the outcome it has, or else FAILED_REJECTS, and
the lane is closed with a purge fault (R48). -/
theorem Lane.payoutBinRefused_eq (l : Lane) (p : Payout) : l.payoutBinRefused p =
    (l.payoutOver p (.purge (p.outcome.getD .failedRejects).reason p.drawn p.binned)
      (.payoutFailed (p.outcome.getD .failedRejects) p.binned)).closedFor
      { l.sup.causes with purgeModule := true } := by
  unfold Lane.payoutBinRefused Lane.endPurged
  rw [Lane.endPayout_eq, Lane.raise_eq, Lane.payoutOver_sup]

/-- A refused note starts no drawer run. -/
theorem Lane.payoutBinRefused_settleRun (l : Lane) (p : Payout) (settled : l.settled = true) :
    (l.payoutBinRefused p).settleRun = l.payoutBinRefused p := by
  rw [Lane.payoutBinRefused_eq]
  exact Lane.settleRun_of_settled _ (Lane.closedFor_settled _ _ (l.payoutOver_settled _ _ _ settled))

/-- What a refused note of a payout ends with: the record, no cash held, the cause of the closing (R48). -/
theorem Lane.payoutBinRefused_ends (l : Lane) (p : Payout) :
    let m := l.payoutBinRefused p
    m.payout = none ∧ m.ledgers.cash = 0
    ∧ m.transport = { l.transport with pickList := [], halted := false, lost := none, remix := none }
    ∧ m.journal.queue = l.journal.queue ++
      [{ record := .purge (p.outcome.getD .failedRejects).reason p.drawn p.binned, seconds := l.wallSeconds
         reserved := true }]
    ∧ m.sup.causes = { l.sup.causes with purgeModule := true }
    ∧ m.sup.service = (if l.sup.service = .opened then .closed else l.sup.service)
    ∧ m.drawer.contents = l.drawer.contents := by
  rw [Lane.payoutBinRefused_eq]
  generalize Record.purge (p.outcome.getD .failedRejects).reason p.drawn p.binned = r
  generalize Notice.payoutFailed (p.outcome.getD .failedRejects) p.binned = n
  obtain ⟨payout, cash, transport, -, queue, sup, -, -, contents, -⟩ := l.payoutOver_frame p r n
  obtain ⟨payout', cash', transport', -, queue', causes, service, -, drawer, -⟩ :=
    (l.payoutOver p r n).closedFor_frame { l.sup.causes with purgeModule := true } payout
  exact ⟨payout', cash'.trans cash, transport'.trans transport, queue'.trans queue, causes,
    by rw [service, sup], by rw [drawer, contents]⟩

/-- The frames that a returned reservation or a closing adds: STATUS and NOTICE JOURNAL. -/
def followsClosing (out : List Outgoing) : Bool :=
  out.all (fun o => match o.body with | .status none | .notice (.journal _ _) => true | _ => false)

theorem followsClosing_of_journal (out : List Outgoing) (h : journalNoticesOnly out = true) :
    followsClosing out = true := by
  unfold journalNoticesOnly followsClosing at *
  rw [List.all_eq_true] at *
  intro o ho
  have kind := h o ho
  obtain ⟨body, dest, tag⟩ := o
  cases body <;> try simp at kind
  case notice n => cases n <;> simp_all

/-- The fields that a refused note of a payout changes, and the frames it queues (R48). -/
theorem Lane.payoutBinRefused_frames (l : Lane) (p : Payout)
    (idle : l.sup.service ≠ .opened ∨ l.envelope.record = none) :
    ∃ more, (l.payoutBinRefused p).bus.queue = queued l.bus.queue
        (toEvery (.release .cash p.amount) p.tag ::
          ⟨.notice (.payoutFailed (p.outcome.getD .failedRejects) p.binned), p.console, p.tag⟩ :: more)
      ∧ followsClosing more = true := by
  rw [Lane.payoutBinRefused_eq]
  generalize hr : Record.purge (p.outcome.getD .failedRejects).reason p.drawn p.binned = r
  generalize hn : Notice.payoutFailed (p.outcome.getD .failedRejects) p.binned = n
  obtain ⟨payout, -, -, -, -, sup, -, -, -, -, envelope, -⟩ := l.payoutOver_frame p r n
  obtain ⟨journal, only, ended⟩ := l.payoutOver_queue p r n
  have closed := (l.payoutOver p r n).closedFor_queue { l.sup.causes with purgeModule := true } payout
    (by rw [sup, envelope]; exact idle)
  rw [closed, ended, ← queued_append]
  refine ⟨journal ++ (if (l.payoutOver p r n).sup.service = .opened then [toEvery (.status none) 0] else []),
    rfl, ?_⟩
  have status : followsClosing (if (l.payoutOver p r n).sup.service = .opened then [toEvery (.status none) 0] else [])
      = true := by split <;> rfl
  have first := followsClosing_of_journal journal only
  unfold followsClosing at *
  rw [List.all_append, first, status, Bool.and_self]

/-! ### The cassette of a result (R3, R4) -/

/-- A check result moves the run of bad picks: the cassette is neither FAULT nor OUT, and its run is below 3 (R4). -/
abbrev Cassette.runs (c : Cassette) : Prop := c.state ≠ .fault ∧ c.state ≠ .out ∧ c.badRun < 3

theorem Cassette.runHeld_iff (c : Cassette) : c.runHeld = true ↔ ¬c.runs := by
  simp only [Cassette.runHeld, Cassette.runs, Bool.or_eq_true, beq_iff_eq, decide_eq_true_eq, ← Nat.not_lt,
    Decidable.not_and_iff_not_or_not, Decidable.not_not, ne_eq, or_assoc]

/-- The entry `x`, which the result has recounted from `c`, after a bad pick of `c` (R4). -/
def Cassette.afterBadPick (c x : Cassette) (cause : FaultCause) : Cassette :=
  if ¬c.runs then x
  else if c.badRun < 2 then { x with badRun := c.badRun + 1 }
  else if x.state = .unused then { x with badRun := 3 }
  else { x with badRun := 3, state := .fault, cause := some cause }

/-- A bad pick acts on a recounted entry as its run and its held state ask (R4). -/
theorem Cassette.badPick_eq (c x : Cassette) (cause : FaultCause) (run : x.badRun = c.badRun)
    (fault : x.state = .fault ↔ c.state = .fault) (out : x.state = .out ↔ c.state = .out) :
    x.badPick cause = c.afterBadPick x cause := by
  have held : x.runHeld = true ↔ ¬c.runs := by
    rw [Cassette.runHeld_iff, Cassette.runs, run, Ne, Ne, fault, out]
  unfold Cassette.badPick Cassette.afterBadPick
  by_cases runs : c.runs
  · obtain ⟨notFault, notOut, below⟩ := runs
    rw [if_neg (fun h => held.mp h ⟨notFault, notOut, below⟩),
      if_neg (not_not_intro ⟨notFault, notOut, below⟩), run]
    by_cases third : c.badRun + 1 = 3
    · rw [if_pos third, if_neg (by omega)]
      unfold Cassette.fail CassState.derived
      rcases hx : x.state <;> simp_all
    · rw [if_neg third, if_pos (by omega)]
  · rw [if_pos (held.mpr runs), if_pos runs]

theorem Cassette.withCount_held (c : Cassette) (n : Nat) :
    ((c.withCount n).state = .fault ↔ c.state = .fault) ∧ ((c.withCount n).state = .out ↔ c.state = .out) := by
  unfold Cassette.withCount
  rcases hc : c.state <;> simp <;> repeat' split
  all_goals simp

theorem Cassette.rejected_eq (c : Cassette) : c.rejected = c.afterBadPick c .rejects :=
  Cassette.badPick_eq c c .rejects rfl Iff.rfl Iff.rfl

theorem Cassette.missed_eq (c : Cassette) : c.missed = c.afterBadPick (c.withCount (c.count + 1)) .miss := by
  unfold Cassette.missed
  rw [Cassette.recount_eq]
  exact Cassette.badPick_eq c _ .miss rfl (c.withCount_held _).1 (c.withCount_held _).2

/-- The entry after the second note of a DOUBLE left it (R3). -/
def Cassette.afterDouble (c : Cassette) : Cassette :=
  if c.count = 0 then
    { c with state := if c.state = .fault ∨ c.state = .out ∨ c.state = .unused then c.state else .suspect }
  else c.withCount (c.count - 1)

theorem Cassette.doubled_eq (c : Cassette) : c.doubled = c.afterBadPick c.afterDouble .rejects := by
  have recounted : (if c.count = 0 then { c with state := if c.state.derived then .suspect else c.state }
      else c.recount (c.count - 1)) = c.afterDouble := by
    unfold Cassette.afterDouble
    rw [Cassette.recount_eq]
    split
    · rcases hc : c.state <;> simp [CassState.derived]
    · rfl
  unfold Cassette.doubled
  rw [recounted]
  refine Cassette.badPick_eq c _ .rejects ?_ ?_ ?_ <;> unfold Cassette.afterDouble <;> split
  · rfl
  · rfl
  · rcases hc : c.state <;> simp
  · exact (c.withCount_held _).1
  · rcases hc : c.state <;> simp
  · exact (c.withCount_held _).2

theorem Cassette.good_eq (c : Cassette) : c.good = if c.runs then { c with badRun := 0 } else c := by
  unfold Cassette.good
  by_cases runs : c.runs
  · rw [if_neg (fun h => c.runHeld_iff.mp h runs), if_pos runs]
  · rw [if_pos (c.runHeld_iff.mpr runs), if_neg runs]

/-! ### The lane of a result (R8, R12, R41) -/

/-- The bin with more notes. -/
def Lane.binWith (l : Lane) (k : Nat) : Bin := { l.cass.bin with count := l.cass.bin.count + k }

/-- The notice of the bin's change at the note that makes `k` (R12). -/
def Lane.binTold (l : Lane) (k : Nat) : List Outgoing :=
  if (l.binWith k).state = (l.binWith (k - 1)).state then []
  else l.toBoth (.cassetteChange none (.inr (l.binWith k).state) none (l.binWith k).count)

/-- The notices of a result: of the entry's change, and of the bin's at each note of it delivered (R12). -/
def Lane.checkNews (l : Lane) (i : Position) (x : Cassette) (k : Nat) : List Outgoing :=
  (if x.state = (l.cass.entry.get i).state then []
    else l.toBoth (.cassetteChange (some i) (.inl x.state) x.cause x.count))
  ++ (if k = 0 then [] else if k = 1 then l.binTold 1 else l.binTold 1 ++ l.binTold 2)

/-- The lane after a result: the oldest note out of the path, the entry changed, `k` notes in the bin (R41). -/
def Lane.checkTaken (l : Lane) (i : Position) (rest : List PathNote) (x : Cassette) (k : Nat) (p : Payout) : Lane :=
  { l.sending (l.checkNews i x k) with
    payout := some p
    cass := { l.cass with entry := l.cass.entry.set i x, bin := l.binWith k }
    transport := { l.transport with path := rest } }

/-- The entry's change is the lane after a result with no note in the bin. -/
theorem Lane.setCassette_checkTaken (l : Lane) (i : Position) (rest : List PathNote) (x : Cassette) (p : Payout) :
    ({ l.withPath rest with payout := some p } : Lane).setCassette i x = l.checkTaken i rest x 0 p := by
  rw [Lane.setCassette_eq]
  unfold Lane.checkTaken Lane.checkNews
  rw [if_pos (rfl : 0 = 0), List.append_nil]
  rfl

/-- The bin takes a first and a second note of a result, each with its notice (R8, R12). -/
theorem Lane.checkTaken_binned (l : Lane) (i : Position) (rest : List PathNote) (x : Cassette) (k : Nat) (p : Payout)
    (hk : k < 2) : (l.checkTaken i rest x k p).binned = l.checkTaken i rest x (k + 1) p := by
  have news : l.checkNews i x (k + 1) = l.checkNews i x k ++ l.binTold (k + 1) := by
    unfold Lane.checkNews
    rcases k with _ | _ | k
    · simp
    · simp
    · omega
  unfold Lane.checkTaken
  rw [news, ← Lane.sending_sending]
  rfl

theorem Lane.checkTaken_settled (l : Lane) (i : Position) (rest : List PathNote) (x : Cassette) (k : Nat) (p : Payout)
    (settled : l.settled = true) : (l.checkTaken i rest x k p).settled = true :=
  l.settled_congr _ settled rfl rfl rfl

end Sys2Proof.Machine

namespace Sys2Proof.Machine

/-! ### The notes of a result that go to the bin (R8, R41, R42, R48) -/

theorem Lane.diverted_zero (l : Lane) (p : Payout) : l.diverted p 0 =
    if 8 < p.diverted ∧ p.state = .picking then l.purge p .failedRejects
    else ({ l with payout := some p } : Lane).progress := rfl

theorem Lane.diverted_succ (l : Lane) (p : Payout) (n : Nat) : l.diverted p (n + 1) =
    if l.binRoom then l.binned.diverted { p with diverted := p.diverted + 1, binned := p.binned + 1 } n
    else l.payoutBinRefused p := by
  unfold Lane.diverted
  rw [Lane.divert, Lane.binAccept_eq]
  by_cases room : l.binRoom = true
  · simp only [room, if_true]
  · simp only [room]
    rfl

/-- The bin has room for a second note of a result where it has two places free (R8). -/
theorem Lane.checkTaken_binRoom (l : Lane) (i : Position) (rest : List PathNote) (x : Cassette) (p : Payout)
    (serves : l.sup.service ≠ .starting) :
    (l.checkTaken i rest x 1 p).binRoom = decide (l.cass.bin.count + 1 < l.cass.bin.capacity) :=
  if_neg (by simpa [Lane.checkTaken] using serves)

/-- A first and a second note of a result that the bin accepts. -/
theorem Lane.diverted_accepted (l : Lane) (i : Position) (rest : List PathNote) (x : Cassette) (k : Nat)
    (p p' : Payout) (n : Nat) (two : k < 2) (room : (l.checkTaken i rest x k p).binRoom = true) :
    (l.checkTaken i rest x k p).diverted p' (n + 1) = (l.checkTaken i rest x (k + 1) p).diverted
      { p' with diverted := p'.diverted + 1, binned := p'.binned + 1 } n := by
  rw [Lane.diverted_succ, if_pos room, l.checkTaken_binned i rest x k p two]

/-- A note of a result that the bin refuses. -/
theorem Lane.diverted_refused (l : Lane) (p : Payout) (n : Nat) (full : l.binRoom ≠ true) :
    l.diverted p (n + 1) = l.payoutBinRefused p := by
  rw [Lane.diverted_succ, if_neg full]

/-- Past start-up the bin has room below its capacity (R8). -/
theorem Lane.binRoom_of_below {l : Lane} (serves : l.sup.service ≠ .starting)
    (below : l.cass.bin.count < l.cass.bin.capacity) : l.binRoom = true := by
  unfold Lane.binRoom
  rw [if_neg (by simpa using serves)]
  exact decide_eq_true below

/-! ### The answers of O34 -/

theorem next_congr (q : List Instr) {l m : Lane} (h : l = m) :
    (.next ⟨q, l⟩ : Host.Outcome State Fault Refusal) = .next ⟨q, m⟩ := by rw [h]

/-- The answer to a result after which the payout goes on, or its purge is over. -/
def GoesOn (p : Payout) (rest : List PathNote) (q : List Instr) (answer : Host.Outcome State Fault Refusal)
    (x : Lane) (p' : Payout) : Prop :=
  let unmet := if x.positionLost.transport.halted = true then p'.stackedValue ≠ p'.amount
    else x.transport.pickList ≠ []
  (rest ≠ [] ∨ (p.state = .picking ∧ unmet) ∨ (p.state = .purging ∧ x.transport.stacker.notes ≠ 0) →
    answer = .next ⟨q, x.positionLost.remixAsked⟩)
  ∧ (rest = [] → p.state = .purging → x.transport.stacker.notes = 0 →
    answer = .next ⟨q, x.payoutOver p' (.purge (p.outcome.getD .failedJam).reason p'.drawn p'.binned)
      (.payoutFailed (p.outcome.getD .failedJam) p'.binned)⟩)

theorem goesOn_progress (p : Payout) (rest : List PathNote) (q : List Instr) (x : Lane) (p' : Payout)
    (settled : x.settled = true) (payout : x.payout = some p') (path : x.transport.path = rest)
    (state : p'.state = p.state) (outcome : p'.outcome = p.outcome) :
    GoesOn p rest q (.next ⟨q, x.progress.settleRun⟩) x p' := by
  obtain ⟨on, ends⟩ := x.progress_settleRun p' payout settled
  rw [path, state] at on ends
  rw [outcome] at ends
  constructor
  · intro goes
    rw [on ?_]
    refine goes.imp_right (Or.imp_left (fun picks => ⟨picks.1, ?_⟩))
    have unmet := picks.2
    unfold Lane.quotasMet
    rw [x.positionLost_frame.2.2.2.2.2.2.1]
    split at unmet
    · rwa [if_pos ‹_›]
    · rwa [if_neg ‹_›]
  · intro empty purging notes
    rw [ends empty purging notes]

/-- The answer to a result that takes the diverted count of a payout in PICKING past 8 (R42). -/
def Crosses (l : Lane) (rest : List PathNote) (q : List Instr) (answer : Host.Outcome State Fault Refusal)
    (x : Lane) (p' : Payout) : Prop :=
  (rest ≠ [] ∨ l.transport.stacker.notes ≠ 0 → answer = .next ⟨q, x.purging p' .failedRejects⟩)
  ∧ (rest = [] → l.transport.stacker.notes = 0 → answer = .next ⟨q,
      ({ x with drawer := { l.drawer with waiting := false } } : Lane).payoutOver p'
        (.purge .rejects p'.drawn p'.binned) (.payoutFailed .failedRejects p'.binned)⟩)

/-- The answer to a result whose note the bin refuses, after `k` accepted ones (R48). -/
def CheckRefused (l : Lane) (p : Payout) (i : Position) (rest : List PathNote) (q : List Instr)
    (answer : Host.Outcome State Fault Refusal) (x : Cassette) (drawn : Four Nat) (k : Nat) : Prop :=
  let outcome := p.outcome.getD .failedRejects
  ∃ m, answer = .next ⟨q, m⟩ ∧ m.payout = none ∧ m.ledgers.cash = 0
  ∧ m.transport = { l.transport with
      path := rest, pickList := [], halted := false, lost := none, remix := none }
  ∧ m.cass = { l.cass with entry := l.cass.entry.set i x, bin := l.binWith k }
  ∧ m.journal.queue = l.journal.queue ++ [{ record := .purge outcome.reason drawn (p.binned + k)
                                            seconds := l.wallSeconds, reserved := true }]
  ∧ m.sup.causes = { l.sup.causes with purgeModule := true }
  ∧ m.sup.service = (if l.sup.service = .opened then .closed else l.sup.service)
  ∧ m.drawer.position = l.drawer.position ∧ m.drawer.contents = l.drawer.contents
  ∧ m.intake = l.intake ∧ m.lockdown = l.lockdown ∧ m.settings = l.settings ∧ m.loops = l.loops
  ∧ (l.sup.service ≠ .opened ∨ l.envelope.record = none → ∃ more,
      m.bus.queue = queued l.bus.queue (l.checkNews i x k ++ toEvery (.release .cash p.amount) p.tag ::
        ⟨.notice (.payoutFailed outcome (p.binned + k)), p.console, p.tag⟩ :: more)
      ∧ followsClosing more = true)

section
variable (l : Lane) (i : Position) (rest : List PathNote) (q : List Instr) (x : Cassette) (p : Payout)

/-- A payout whose diverted count is within 8, or that is PURGING already, goes on (R42). -/
theorem goesOn_diverted (p0 p' : Payout) (k : Nat) (settled : l.settled = true)
    (within : ¬(8 < p'.diverted ∧ p'.state = .picking)) (state : p'.state = p.state)
    (outcome : p'.outcome = p.outcome) :
    GoesOn p rest q (.next ⟨q, ((l.checkTaken i rest x k p0).diverted p' 0).settleRun⟩)
      (l.checkTaken i rest x k p') p' := by
  rw [Lane.diverted_zero, if_neg within]
  exact goesOn_progress p rest q (l.checkTaken i rest x k p') p' (l.checkTaken_settled i rest x k p' settled) rfl rfl
    state outcome

/-- A payout in PICKING whose diverted count is past 8 fails (R42). -/
theorem crosses_diverted (p0 p' : Payout) (k : Nat) (settled : l.settled = true)
    (past : 8 < p'.diverted) (picking : p'.state = .picking) :
    Crosses l rest q (.next ⟨q, ((l.checkTaken i rest x k p0).diverted p' 0).settleRun⟩)
      (l.checkTaken i rest x k p') p' := by
  rw [Lane.diverted_zero, if_pos ⟨past, picking⟩]
  obtain ⟨purges, ends⟩ := (l.checkTaken i rest x k p0).purge_settleRun p' .failedRejects
    (l.checkTaken_settled i rest x k p0 settled)
  exact ⟨fun notes => next_congr q (purges notes),
    fun path notes => next_congr q (ends path notes)⟩

/-- A refused note ends the payout, and the lane closes with a purge fault (R48). -/
theorem checkRefused_refused (p0 p' : Payout) (k : Nat) (settled : l.settled = true)
    (outcome : p'.outcome = p.outcome) (binned : p'.binned = p.binned + k) (amount : p'.amount = p.amount)
    (tag : p'.tag = p.tag) (console : p'.console = p.console) :
    CheckRefused l p i rest q (.next ⟨q, ((l.checkTaken i rest x k p0).payoutBinRefused p').settleRun⟩) x
      p'.drawn k := by
  rw [Lane.payoutBinRefused_settleRun _ _ (l.checkTaken_settled i rest x k p0 settled)]
  have frame := (l.checkTaken i rest x k p0).payoutBinRefused_frame p'
  obtain ⟨-, -, -, -, -, settings, cass, -, position, intake, -, loops, lockdown, -⟩ := frame
  obtain ⟨payout, cash, transport, queue, causes, service, contents⟩ :=
    (l.checkTaken i rest x k p0).payoutBinRefused_ends p'
  rw [outcome, binned] at queue
  refine ⟨_, rfl, payout, cash, transport, cass, queue, causes, service, position, contents, intake, lockdown,
    settings, loops, fun idle => ?_⟩
  obtain ⟨more, frames, only⟩ := (l.checkTaken i rest x k p0).payoutBinRefused_frames p' idle
  rw [outcome, binned, amount, tag, console] at frames
  exact ⟨more, frames.trans (queued_append _ _ _).symm, only⟩

/-- The oldest note of a payout that takes results. -/
theorem Lane.oldestNote_eq (n : PathNote) (hp : l.payout = some p) (hs : p.state = .picking ∨ p.state = .purging)
    (path : l.transport.path = n :: rest) : l.oldestNote = some (p, n, rest) := by
  unfold Lane.oldestNote
  simp [hp, path, hs]

theorem Lane.withPath_payout (hp : l.payout = some p) :
    ({ l.withPath rest with payout := some p } : Lane) = l.withPath rest := by
  rw [← hp]
  rfl

/-- A REJECT offers its one note to the bin (R41). -/
theorem Lane.checked_reject (n : PathNote) (hp : l.payout = some p) (hs : p.state = .picking ∨ p.state = .purging)
    (path : l.transport.path = n :: rest) : l.checked .reject =
      (l.checkTaken n.position rest (l.cass.entry.get n.position).rejected 0 p).diverted p 1 := by
  unfold Lane.checked
  rw [l.oldestNote_eq rest p n hp hs path, ← Lane.setCassette_checkTaken, l.withPath_payout rest p hp]

/-- A DOUBLE draws a second note and offers both to the bin (R41). -/
theorem Lane.checked_double (n : PathNote) (hp : l.payout = some p) (hs : p.state = .picking ∨ p.state = .purging)
    (path : l.transport.path = n :: rest) : l.checked .double =
      (l.checkTaken n.position rest (l.cass.entry.get n.position).doubled 0 p).diverted
        { p with drawn := p.drawn.set n.position (p.drawn.get n.position + 1) } 2 := by
  unfold Lane.checked
  rw [l.oldestNote_eq rest p n hp hs path, ← Lane.setCassette_checkTaken, l.withPath_payout rest p hp]
  rfl

/-- A MISS draws a note fewer (R41). -/
theorem Lane.missed_eq (n : PathNote) (hp : l.payout = some p) (hs : p.state = .picking ∨ p.state = .purging)
    (path : l.transport.path = n :: rest) : l.missed =
      (l.checkTaken n.position rest (l.cass.entry.get n.position).missed 0
        { p with drawn := p.drawn.set n.position (p.drawn.get n.position - 1) }).progress := by
  unfold Lane.missed
  rw [l.oldestNote_eq rest p n hp hs path, ← Lane.setCassette_checkTaken]
  rfl

/-- The lane after a GOOD result, whose note joins the stacker and lowers its quota (R41). -/
def Lane.checkGood (n : PathNote) : Lane :=
  let d := (l.cass.entry.get n.position).denomination.getD 0
  { l.checkTaken n.position rest x 0
      { p with stackedNotes := p.stackedNotes + 1, stackedValue := p.stackedValue + d } with
    transport := { l.transport with
      path := rest
      stacker := { kind := .cash, notes := l.transport.stacker.notes + 1
                   value := l.transport.stacker.value + d }
      pickList := (l.transport.pickList.map (fun e =>
        if e.position = n.position then { e with quota := e.quota - 1 } else e)).filter (fun e => 0 < e.quota) } }

/-- A GOOD result stacks its note (R41). -/
theorem Lane.checked_good (n : PathNote) (hp : l.payout = some p) (hs : p.state = .picking ∨ p.state = .purging)
    (path : l.transport.path = n :: rest) : l.checked .good =
      (l.checkGood rest (l.cass.entry.get n.position).good p n).progress := by
  unfold Lane.checked Lane.checkGood Lane.checkTaken Lane.checkNews
  rw [l.oldestNote_eq rest p n hp hs path]
  dsimp only
  rw [Lane.setCassette_eq, if_pos (rfl : 0 = 0), List.append_nil]
  rfl

end

theorem exec_checkResult (r : CheckOutcome) (q : List Instr) (l : Lane) :
    exec (.checkResult r) ⟨q, l⟩ = .next ⟨q, (l.checked r).settleRun⟩ := rfl

theorem exec_checkMiss (q : List Instr) (l : Lane) :
    exec .checkMiss ⟨q, l⟩ = .next ⟨q, l.missed.settleRun⟩ := rfl

/-- Settles O34: each result is the lane it leaves, and what follows it by the count diverted and the bin's room. -/
theorem checkResultMovesOldestNote : Obligations.CheckResultMovesOldestNote := by
  unfold Obligations.CheckResultMovesOldestNote
  intro p n rest q l settled hp hs path i c d live bad doubled binned told deliveries changes table taken ended goesOn
    crosses refused stacked diverted drewTwo divertedTwo good missed
  have reject := l.checked_reject rest p n hp hs path
  have double := l.checked_double rest p n hp hs path
  rw [Cassette.rejected_eq] at reject
  rw [Cassette.doubled_eq] at double
  have stays (k : Nat) (within : p.state = .purging ∨ p.diverted < 9 - k) :
      ¬(8 < p.diverted + k ∧ p.state = .picking) := by
    rintro ⟨past, picking⟩
    rcases within with purging | below
    · rw [purging] at picking
      cases picking
    · omega
  have bin_full (full : l.binRoom = false) (x : Cassette) : (l.checkTaken i rest x 0 p).binRoom ≠ true :=
    ne_true_of_eq_false full
  simp only [exec_checkResult, exec_checkMiss]
  refine ⟨?good, ?miss, ?reject, ?crossing, ?rejectRefused, ?double, ?doubleRefused, ?secondRefused⟩
  case good =>
    rw [l.checked_good rest p n hp hs path, Cassette.good_eq]
    exact goesOn_progress p rest q _ stacked (l.settled_congr _ settled rfl rfl rfl) rfl rfl rfl rfl
  case miss =>
    rw [l.missed_eq rest p n hp hs path, Cassette.missed_eq]
    exact goesOn_progress p rest q _ missed (l.checkTaken_settled _ _ _ _ _ settled) rfl rfl rfl rfl
  case reject =>
    intro room within
    rw [reject, l.diverted_accepted i rest _ 0 p p 0 (by decide) room]
    exact goesOn_diverted l i rest q _ p p diverted 1 settled (stays 1 within) rfl rfl
  case crossing =>
    intro room picking past
    rw [reject, l.diverted_accepted i rest _ 0 p p 0 (by decide) room]
    exact crosses_diverted l i rest q _ p diverted 1 settled (Nat.lt_succ_of_le past) picking
  case rejectRefused =>
    intro full
    rw [reject, Lane.diverted_refused _ _ _ (bin_full full _)]
    exact checkRefused_refused l i rest q _ p p p 0 settled rfl rfl rfl rfl rfl
  case double =>
    intro room serves
    have first : l.binRoom = true := Lane.binRoom_of_below serves (Nat.lt_of_succ_lt room)
    have second (x : Cassette) : (l.checkTaken i rest x 1 p).binRoom = true := by
      rw [l.checkTaken_binRoom i rest x p serves]
      exact decide_eq_true room
    rw [double, l.diverted_accepted i rest _ 0 p _ 1 (by decide) first,
      l.diverted_accepted i rest _ 1 p _ 0 (by decide) (second _)]
    exact ⟨fun within => goesOn_diverted l i rest q _ p p divertedTwo 2 settled (stays 2 within) rfl rfl,
      fun picking past =>
        crosses_diverted l i rest q _ p divertedTwo 2 settled (show 8 < p.diverted + 2 by omega) picking⟩
  case doubleRefused =>
    intro full
    rw [double, Lane.diverted_refused _ _ _ (bin_full full _)]
    exact checkRefused_refused l i rest q _ p p { p with drawn := drewTwo } 0 settled rfl rfl rfl rfl rfl
  case secondRefused =>
    intro serves last
    have first : l.binRoom = true := Lane.binRoom_of_below serves (by omega)
    have second (x : Cassette) : (l.checkTaken i rest x 1 p).binRoom ≠ true := by
      rw [l.checkTaken_binRoom i rest x p serves]
      simp [last]
    rw [double, l.diverted_accepted i rest _ 0 p _ 1 (by decide) first, Lane.diverted_refused _ _ _ (second _)]
    exact checkRefused_refused l i rest q _ p p _ 1 settled rfl rfl rfl rfl rfl

end Sys2Proof.Machine

/-! PROOFS. Bundles and remixes: the last note asks for the drawer, and a remix resumes picking or purges (O35). -/

namespace Sys2Proof.Machine

/-! ### The answers to a request for the drawer (R61) -/

/-- The drawer is barred where it is JAMMED or one of its drivers has a latched fault (R61). -/
theorem Lane.drawerBarred_iff (l : Lane) : l.drawerBarred = true ↔ l.drawer.position = .jammed
    ∨ l.latchedFault .drawerOut = true ∨ l.latchedFault .drawerIn = true := by
  simp [Lane.drawerBarred, Lane.drawerDriverFault]

/-- The drawer has no owner, stands empty at HOME and runs nowhere (R61). -/
def Lane.drawerIdle (l : Lane) : Prop :=
  l.drawer.owner = none ∧ l.drawer.position = .home ∧ l.drawer.contents = .empty
    ∧ l.drawer.movement = none ∧ l.drawer.travel = none

theorem Lane.drawerFree_iff (l : Lane) : l.drawer.free = true ↔ l.drawerIdle := by
  simp [Drawer.free, Drawer.atRest, Lane.drawerIdle, and_assoc]

/-- The tests of a payout's request for the drawer, in the order of R61. -/
theorem Lane.drawerAnswer_payout (l : Lane) : l.drawerAnswer true =
    if l.drawerBarred = true then .unavailable else if l.lockdown.state ≠ .clear then .locked
    else if l.drawer.free = true then .granted
    else if l.drawer.owner = none ∧ l.drawer.movement = some .close then .waiting else .busy := by
  unfold Lane.drawerAnswer Lane.drawerBarred Lane.locked
  by_cases jammed : l.drawer.position = .jammed
  · simp [jammed]
  · simp [jammed]

/-! ### The last note (R40, R43, R49) -/

/-- A payout that is not PICKING, and not at the end of its purge, is left as it is with an empty note path. -/
theorem Lane.drained_of_decided (l : Lane) (p : Payout) (hp : l.payout = some p) (hs : p.state ≠ .picking)
    (purges : p.state = .purging → l.transport.stacker.notes ≠ 0) : l.drained p = l := by
  have same : ({ l with payout := some p } : Lane) = l := by rw [← hp]
  unfold Lane.drained Lane.purgeIfDone
  by_cases purging : p.state = .purging
  · simp [purging, purges purging, same]
  · simp [purging, hs, same]

/-- A payout that has asked for the drawer with notes in the stacker waits for what comes next. -/
theorem Lane.askDrawer_drained (l : Lane) (p : Payout) (hs : p.state = .bundled)
    (notes : l.transport.stacker.notes ≠ 0) :
    (match (l.askDrawer p).payout with
      | some p' => (l.askDrawer p).drained p'
      | none => l.askDrawer p) = l.askDrawer p := by
  have purges (o : PayoutOutcome) : (match (l.purge p o).payout with
      | some p' => (l.purge p o).drained p'
      | none => l.purge p o) = l.purge p o := by
    rw [(l.purge_eq p o).1 (.inr notes)]
    exact Lane.drained_of_decided _ _ rfl (by simp) (fun _ => notes)
  unfold Lane.askDrawer
  cases l.drawerAnswer true with
  | granted => exact Lane.drained_of_decided _ _ rfl (by simp) (by simp)
  | waiting => exact Lane.drained_of_decided _ _ rfl (by simp [hs]) (by simp [hs])
  | busy => exact Lane.drained_of_decided _ _ rfl (by simp [hs]) (by simp [hs])
  | unavailable => exact purges .failedJam
  | locked => exact purges .locked

/-- With an empty note path and its quotas met, a payout in PICKING asks for the drawer (R40, R43, R49). -/
theorem Lane.drained_bundled (l : Lane) (p : Payout) (hs : p.state = .picking) (path : l.transport.path = [])
    (met : l.quotasMet p) : l.drained p = l.askDrawer { p with state := .bundled } := by
  unfold Lane.quotasMet at met
  unfold Lane.drained
  by_cases halted : l.transport.halted = true
  · rw [if_pos halted] at met
    simp [path, hs, halted, met]
  · rw [if_neg halted] at met
    simp [path, hs, halted, met]

/-- A lost position halts the picks of a payout in PICKING, or there is none to lose (R39, R43). -/
theorem Lane.checkLost_cases (l : Lane) (p : Payout) (hp : l.payout = some p) (hs : p.state = .picking) :
    (l.checkLost = l ∧ l.positionLost = l)
    ∨ ∃ halts : Lane, halts.payout = l.payout ∧ halts.transport.path = l.transport.path
      ∧ halts.transport.stacker = l.transport.stacker ∧ halts.transport.halted = true
      ∧ l.checkLost = halts.drained p ∧ l.positionLost = halts.remixAsked := by
  rw [Lane.positionLost_def]
  unfold Lane.checkLost
  rw [hp]
  cases l.transport.pickList.find? l.lostEntry with
  | none => exact .inl ⟨by simp, rfl⟩
  | some e =>
    by_cases halted : l.transport.halted = true
    · exact .inl ⟨by simp [halted], by simp [halted]⟩
    · exact .inr ⟨{ l with transport := { l.transport with halted := true, lost := some e.position } },
        hp, rfl, rfl, rfl, by simp [hs, halted, hp], by simp [hs, halted, hp]⟩

/-- A payout whose amount is stacked asks for no remix (R43). -/
theorem Lane.remixAsked_of_stacked (l : Lane) (p : Payout) (hp : l.payout = some p)
    (amount : p.stackedValue = p.amount) :
    l.remixAsked = l := by
  unfold Lane.remixAsked
  simp [hp, amount]

/-- The last note of a payout whose quotas are met bundles it, a position lost by its result or not. -/
theorem Lane.progress_bundled (l : Lane) (p : Payout) (hp : l.payout = some p) (hs : p.state = .picking)
    (path : l.transport.path = []) (notes : l.transport.stacker.notes ≠ 0) (met : l.positionLost.quotasMet p) :
    l.progress = l.positionLost.askDrawer { p with state := .bundled } := by
  unfold Lane.progress
  dsimp only
  rcases l.checkLost_cases p hp hs with ⟨check, lost⟩ | ⟨halts, payout, path', stacker, halted, check, lost⟩
  · rw [check, lost, hp]
    rw [lost] at met
    exact l.drained_bundled p hs path met
  · have amount : p.stackedValue = p.amount := by
      unfold Lane.quotasMet at met
      rwa [if_pos (by rw [lost, Lane.remixAsked_halted, halted])] at met
    rw [halts.remixAsked_of_stacked p (payout.trans hp) amount] at lost
    rw [check, lost, halts.drained_bundled p hs (path'.trans path) (lost ▸ met)]
    exact halts.askDrawer_drained _ rfl (by rw [stacker]; exact notes)

/-- A payout's request that a barred drawer, or lockdown, refuses: its notes are purged (R49, R61). -/
theorem Lane.askDrawer_refused (l : Lane) (p : Payout) (settled : l.settled = true)
    (notes : l.transport.stacker.notes ≠ 0) :
    (l.drawerBarred = true → (l.askDrawer p).settleRun = l.purging p .failedJam)
    ∧ (l.drawerBarred ≠ true → l.lockdown.state ≠ .clear → (l.askDrawer p).settleRun = l.purging p .locked) := by
  unfold Lane.askDrawer
  rw [Lane.drawerAnswer_payout]
  refine ⟨fun barred => ?_, fun able locked => ?_⟩
  · rw [if_pos barred]
    exact (l.purge_settleRun p .failedJam settled).1 (.inr notes)
  · rw [if_neg able, if_pos locked]
    exact (l.purge_settleRun p .locked settled).1 (.inr notes)

/-- A payout's request granted: the bundle is in the tray and the drawer extends (R61, R64). -/
theorem Lane.askDrawer_granted (l : Lane) (p : Payout) (able : l.drawerBarred ≠ true)
    (clear : l.lockdown.state = .clear) (free : l.drawer.free = true) (away : l.drawer.atEnd ≠ some .out)
    (cash : l.transport.stacker.kind = .cash) : (l.askDrawer p).settleRun =
      ({ l with
        payout := some { p with state := .presenting }
        transport := { l.transport with stacker := Bundle.empty }
        drawer := { l.drawer with
          contents := .cash, presented := l.transport.stacker.notes, waiting := false
          owner := some ⟨.payout, p.tag⟩, lastOwnerTag := some p.tag } } : Lane).startRun .extend := by
  have asked : l.askDrawer p = ({ l with
        payout := some { p with state := .presenting }
        transport := { l.transport with stacker := Bundle.empty }
        drawer := { l.drawer with
          contents := .cash, presented := l.transport.stacker.notes, waiting := false
          owner := some ⟨.payout, p.tag⟩, lastOwnerTag := some p.tag } } : Lane).startRun .extend := by
    unfold Lane.askDrawer
    rw [Lane.drawerAnswer_payout, if_neg able, if_neg (not_not_intro clear), if_pos free]
    unfold Lane.present Lane.grant
    simp only [cash, beq_self_eq_true, if_true]
  rw [asked]
  refine Lane.settleRun_of_settled _ ?_
  unfold Lane.settled
  have sensor (m : Lane) : (m.startRun .extend).drawer.atEnd = m.drawer.atEnd := rfl
  rw [sensor]
  dsimp only
  cases ends : l.drawer.atEnd with
  | none => rfl
  | some e =>
    cases e with
    | home => rfl
    | out => exact absurd ends away

/-- A payout's request that finds the drawer busy waits: for a CLOSE run by a held request, or in BUNDLED (R61). -/
theorem Lane.askDrawer_busy (l : Lane) (p : Payout) (settled : l.settled = true) (able : l.drawerBarred ≠ true)
    (clear : l.lockdown.state = .clear) (busy : l.drawer.free ≠ true) : (l.askDrawer p).settleRun =
      { l with
        payout := some p
        drawer := if l.drawer.owner = none ∧ l.drawer.movement = some .close then { l.drawer with waiting := true }
          else l.drawer } := by
  unfold Lane.askDrawer
  rw [Lane.drawerAnswer_payout, if_neg able, if_neg (not_not_intro clear), if_neg busy]
  by_cases waits : l.drawer.owner = none ∧ l.drawer.movement = some .close
  · rw [if_pos waits, if_pos waits]
    exact Lane.settleRun_of_settled _ (l.settled_congr _ settled rfl rfl rfl)
  · rw [if_neg waits, if_neg waits]
    exact Lane.settleRun_of_settled _ (l.settled_congr _ settled rfl rfl rfl)

theorem exec_remixAnswer (q : List Instr) (l : Lane) :
    exec .remixAnswer ⟨q, l⟩ = .next ⟨q, l.remixAnswered.settleRun⟩ := rfl

/-- A remix with a mix that fits the bin replaces the pick list, any other sends the payout to PURGING (R44). -/
theorem Lane.remixAnswered_eq (l : Lane) (p : Payout) (a : MixAnswer) (hp : l.payout = some p)
    (hs : p.state = .picking) (path : l.transport.path = []) (asked : l.transport.remix = some a) :
    (∀ x, a = .mix x → l.remixFits p x = true → l.remixAnswered = ({ l with transport := { l.transport with
        pickList := x.pickList, halted := false, lost := none, remix := none } } : Lane).checkLost)
    ∧ ((∀ x, a = .mix x → l.remixFits p x ≠ true) → l.remixAnswered = l.purge p .failedShort) := by
  unfold Lane.remixAnswered
  rw [hp, asked]
  simp only [hs, path, and_self, if_true]
  refine ⟨fun x mix fits => by rw [mix]; exact if_pos fits, fun none_fits => ?_⟩
  cases a with
  | mix x => exact if_neg (none_fits x rfl)
  | range => rfl
  | noMix => rfl

/-- A pick list without a lost position loses none (R43). -/
theorem Lane.positionLost_of_eligible (l : Lane)
    (eligible : ∀ e ∈ l.transport.pickList, e.quota = 0 ∨ (l.cass.entry.get e.position).eligible = true) :
    l.positionLost = l ∧ l.checkLost = l := by
  have found : l.transport.pickList.find? l.lostEntry = none := by
    rw [List.find?_eq_none]
    intro e member
    rcases eligible e member with quota | kept
    · simp [Lane.lostEntry, quota]
    · simp [Lane.lostEntry, kept]
  constructor
  · rw [Lane.positionLost_def, found]
    cases l.payout <;> rfl
  · unfold Lane.checkLost
    rw [found]
    cases l.payout <;> simp

/-- A GOOD result leaves the state (R4). -/
theorem Cassette.good_state (c : Cassette) : c.good.state = c.state := by
  unfold Cassette.good
  split <;> rfl

/-- A GOOD result that leaves the entry's state queues no notice (R12). -/
theorem Lane.checkGood_quiet (l : Lane) (rest : List PathNote) (x : Cassette) (p : Payout) (n : PathNote)
    (same : x.state = (l.cass.entry.get n.position).state) : l.checkGood rest x p n =
      let d := (l.cass.entry.get n.position).denomination.getD 0
      { l with
        payout := some { p with stackedNotes := p.stackedNotes + 1, stackedValue := p.stackedValue + d }
        cass := { l.cass with entry := l.cass.entry.set n.position x }
        transport := { l.transport with
          path := rest
          stacker := ⟨.cash, l.transport.stacker.notes + 1, l.transport.stacker.value + d⟩
          pickList := (l.transport.pickList.map (fun e =>
            if e.position = n.position then { e with quota := e.quota - 1 } else e)).filter (fun e => 0 < e.quota) } } := by
  unfold Lane.checkGood Lane.checkTaken Lane.checkNews
  rw [if_pos same]
  rfl

/-- Settles O35: the last note is a GOOD result that bundles, and a remix is answered by its mix. -/
theorem lastNotePresentsAndRemixResumes : Obligations.LastNotePresentsAndRemixResumes := by
  unfold Obligations.LastNotePresentsAndRemixResumes
  refine ⟨?lastNote, ?remix⟩
  case lastNote =>
    intro p n q l settled hp hs path i c d good b p' stacked bundled answer faulty free waits able met
    have entry : c.good = good := by
      simp only [good, Cassette.good, Cassette.runHeld, Bool.or_eq_true, beq_iff_eq, decide_eq_true_eq, or_assoc]
    have unchanged : good.state = c.state := by
      rw [← entry]
      exact c.good_state
    have last : l.checked .good = stacked.progress := by
      rw [l.checked_good [] p n hp (.inl hs) path, entry, l.checkGood_quiet [] good p n unchanged]
    obtain ⟨drawer, -, -, -, -, stacker, list, lockdown, drivers, -⟩ := stacked.positionLost_frame
    have notes : bundled.transport.stacker.notes ≠ 0 := by
      rw [stacker]
      exact Nat.succ_ne_zero _
    have quotas : bundled.quotasMet p' := by
      unfold Lane.quotasMet
      rw [list]
      exact met
    have asks : answer = .next ⟨q, (bundled.askDrawer { p' with state := .bundled }).settleRun⟩ := by
      refine (exec_checkResult .good q l).trans (next_congr q ?_)
      rw [last, stacked.progress_bundled p' rfl hs rfl (Nat.succ_ne_zero _) quotas]
    have bundled_settled : bundled.settled = true := (stacked.positionLost_settled settled).1
    have barred : bundled.drawerBarred = true ↔ faulty := by
      rw [Lane.drawerBarred_iff]
      unfold Lane.latchedFault Lane.driver
      rw [drawer, drivers]
      exact Iff.rfl
    have freed : bundled.drawer.free = true ↔ free := by
      rw [drawer]
      exact l.drawerFree_iff
    obtain ⟨jams, locks⟩ := bundled.askDrawer_refused { p' with state := .bundled } bundled_settled notes
    rw [asks]
    refine ⟨fun h => next_congr q (jams (barred.mpr h)),
      fun h locked => next_congr q (locks (mt barred.mp h) (by rwa [lockdown])),
      fun h idle away => next_congr q ?_, fun h busy => next_congr q ?_⟩
    · rw [bundled.askDrawer_granted _ (mt barred.mp h.1) (by rw [lockdown]; exact h.2) (freed.mpr idle)
        (by rw [drawer]; exact away) (by rw [stacker]), drawer, stacker]
    · rw [bundled.askDrawer_busy _ bundled_settled (mt barred.mp h.1) (by rw [lockdown]; exact h.2)
        (mt freed.mp busy), drawer]
  case remix =>
    intro p a q l settled hp hs path asked fits
    obtain ⟨resumes, purges⟩ := l.remixAnswered_eq p a hp hs path asked
    have fits_iff (x : Mix) : l.remixFits p x = true ↔ fits x := decide_eq_true_iff
    rw [exec_remixAnswer]
    refine ⟨fun x mix room kept => ?_, fun short => ?_⟩
    · intro resumed
      have list (h : ∀ e ∈ x.picks, e.2 = 0 ∨ (l.cass.entry.get e.1).eligible = true) :
          ∀ e ∈ resumed.transport.pickList, e.quota = 0 ∨ (resumed.cass.entry.get e.position).eligible = true := by
        intro e member
        obtain ⟨y, pick, rfl⟩ := List.mem_map.mp member
        exact h y pick
      have answered : l.remixAnswered.settleRun = resumed.positionLost := by
        rw [resumes x mix ((fits_iff x).mpr room)]
        rcases kept with amount | eligible
        · refine Lane.checkLost_settleRun resumed settled (fun p' hp' => .inr ?_)
          cases hp.symm.trans hp'
          exact amount
        · obtain ⟨lost, check⟩ := resumed.positionLost_of_eligible (list eligible)
          rw [lost]
          exact (congrArg Lane.settleRun check).trans (Lane.settleRun_of_settled resumed settled)
      exact ⟨next_congr q answered, fun eligible => (resumed.positionLost_of_eligible (list eligible)).1⟩
    · rw [purges (fun x mix => mt (fits_iff x).mp (short x mix))]
      obtain ⟨on, ends⟩ := l.purge_settleRun p .failedShort settled
      exact ⟨fun notes => next_congr q (on (.inr notes)), fun notes => next_congr q (ends path notes)⟩

end Sys2Proof.Machine

/-! PROOFS. Jams and the bin: what ends money in motion (O36). -/

namespace Sys2Proof.Machine

/-- A jam answers with the lane it leaves. -/
theorem transportJam_next {at_ : Option Position} {l m : Lane} (q : List Instr) (h : l.jam at_ = m) :
    exec (.transportJam at_) ⟨q, l⟩ = .next ⟨q, m⟩ := next_congr q h

/-- A note's delivery answers with the lane it leaves. -/
theorem binNoteDelivery_next {source : NoteSource} {l m : Lane} (q : List Instr) (h : l.delivery source = m) :
    exec (.binNoteDelivery source) ⟨q, l⟩ = .next ⟨q, m⟩ := next_congr q h

/-! ### Whether homing runs (R190) -/

theorem Lane.homes_eq_false (l : Lane) :
    l.homes = false ↔ ¬(l.sup.service = .starting ∧ l.sup.homing.running = true) := by
  rw [← Lane.homes_iff, Bool.not_eq_true]

theorem Lane.homesIn_iff (l : Lane) (st : HomingStep) :
    l.homesIn st = true ↔ l.homes = true ∧ l.sup.homing.step = st := by
  simp [Lane.homesIn]

theorem Lane.struckAt_homes (l : Lane) (a : Option Position) : (l.struckAt a).homes = l.homes := by
  unfold Lane.homes
  rw [(l.struckAt_frame a).1]

/-! ### A transport jam by what it finds (R5, R45, R70, R91, R190) -/

section
variable (l : Lane) (a : Option Position)

theorem Lane.jam_counting (counting : l.drawer.counting = true) : l.jam a = (l.struckAt a).countStopped true := by
  rw [Lane.jam_eq]
  exact if_pos (by rw [(l.struckAt_frame a).2.1, counting])

/-- A jam outside a count of the tray and outside homing. -/
theorem Lane.jam_afield (still : l.drawer.counting = false) (homes : l.homes = false) : l.jam a =
    match l.payout, l.intake with
    | some p, _ => if p.state = .picking ∨ p.state = .purging then (l.struckAt a).payoutJammed p else l.struckAt a
    | none, some i =>
      if i.state = .feeding ∨ i.state = .keeping ∨ (i.state = .givingBack ∧ i.escrow ≠ []) then
        ((l.struckAt a).stopIntake i 0).raise (fun c => { c with transportModule := true })
      else l.struckAt a
    | none, none => l.struckAt a := by
  obtain ⟨-, drawer, payout, intake, -⟩ := l.struckAt_frame a
  rw [Lane.jam_eq]
  dsimp only
  rw [drawer, still, l.struckAt_homes a, homes, payout, intake]
  rfl

theorem Lane.jam_steps (still : l.drawer.counting = false) (homes : l.homes = true) :
    l.jam a = (l.struckAt a).homingJam := by
  rw [Lane.jam_eq]
  dsimp only
  rw [(l.struckAt_frame a).2.1, still, l.struckAt_homes a, homes]
  rfl

/-- A jam ends a payout in PICKING or PURGING (R45). -/
theorem Lane.jam_payout (p : Payout) (still : l.drawer.counting = false) (homes : l.homes = false)
    (hp : l.payout = some p) (hs : p.state = .picking ∨ p.state = .purging) : l.jam a =
      ((l.struckAt a).payoutOver p (.purge .jam p.drawn p.binned) (.payoutFailed .failedJam p.binned)).closedFor
        { l.sup.causes with transportModule := true } := by
  rw [l.jam_afield a still homes, hp]
  dsimp only
  rw [if_pos hs]
  unfold Lane.payoutJammed Lane.endPurged
  rw [Lane.endPayout_eq, Lane.raise_eq, Lane.payoutOver_sup, (l.struckAt_frame a).1]
  rfl

/-- A jam stops an intake that feeds, keeps or gives back (R91). -/
theorem Lane.jam_intake (i : Intake) (still : l.drawer.counting = false) (homes : l.homes = false)
    (hp : l.payout = none) (hi : l.intake = some i)
    (moves : i.state = .feeding ∨ i.state = .keeping ∨ (i.state = .givingBack ∧ i.escrow ≠ []))
    (records : List Record) (n : Notice)
    (stops : (l.struckAt a).stopIntake i 0 = (l.struckAt a).intakeStopped i records n) : l.jam a =
      ((l.struckAt a).intakeStopped i records n).closedFor { l.sup.causes with transportModule := true } := by
  have sup : ((l.struckAt a).intakeStopped i records n).sup = l.sup := (l.struckAt_frame a).1
  rw [l.jam_afield a still homes, hp, hi]
  dsimp only
  rw [if_pos moves, stops, Lane.raise_eq, sup]

/-- A jam with nothing in motion strikes its pick point alone. -/
theorem Lane.jam_idle (still : l.drawer.counting = false) (homes : l.homes = false)
    (payout : ∀ p, l.payout = some p → p.state ≠ .picking ∧ p.state ≠ .purging)
    (intake : ∀ i, l.payout = none → l.intake = some i →
      i.state ≠ .feeding ∧ i.state ≠ .keeping ∧ (i.state = .givingBack → i.escrow = [])) :
    l.jam a = l.struckAt a := by
  rw [l.jam_afield a still homes]
  cases hp : l.payout with
  | some p => exact if_neg (by simp [payout p hp])
  | none =>
    cases hi : l.intake with
    | none => rfl
    | some i =>
      obtain ⟨feeding, keeping, givingBack⟩ := intake i hp hi
      refine if_neg ?_
      rintro (h | h | ⟨h, notes⟩)
      · exact feeding h
      · exact keeping h
      · exact notes (givingBack h)

end

/-! ### The notes of a purge (R8, R46, R48) -/

theorem Lane.delivery_stacker (l : Lane) (homes : l.homes = false) : l.delivery .stacker = l.purgeDelivery := by
  unfold Lane.delivery
  simp [homes]

/-- A purge goes on by its stacker's notes: each accepted one leaves it, the last ends the purge, a refused one stays
and ends the payout. -/
theorem Lane.purgeDelivery_eq (l : Lane) (p : Payout) (hp : l.payout = some p) (purging : p.state = .purging)
    (path : l.transport.path = []) (notes : l.transport.stacker.notes ≠ 0) :
    let b := l.transport.stacker
    (l.binRoom = true → 1 < b.notes → l.purgeDelivery = { l.binned with
        payout := some { p with binned := p.binned + 1, stackedNotes := b.notes - 1, stackedValue := b.value }
        transport := { l.transport with stacker := { b with notes := b.notes - 1 } } })
    ∧ (l.binRoom = true → b.notes = 1 → l.purgeDelivery =
        ({ l.binned with transport := { l.transport with stacker := Bundle.empty } } : Lane).payoutOver p
          (.purge (p.outcome.getD .failedJam).reason p.drawn (p.binned + 1))
          (.payoutFailed (p.outcome.getD .failedJam) (p.binned + 1)))
    ∧ (l.binRoom = false → l.purgeDelivery = l.payoutBinRefused p) := by
  intro b
  have transport : l.binned.transport = l.transport := rfl
  unfold Lane.purgeDelivery
  rw [hp, Lane.binAccept_eq]
  dsimp only
  rw [if_pos ⟨purging, path, notes⟩]
  refine ⟨fun room more => ?_, fun room last => ?_, fun full => ?_⟩
  · rw [if_pos room]
    dsimp only
    unfold Lane.purgeIfDone Bundle.takeOne
    rw [transport, if_neg (Nat.not_le.mpr more), if_neg]
    have : b.notes - 1 ≠ 0 := by omega
    simp [this, b]
  · rw [if_pos room]
    dsimp only
    unfold Lane.purgeIfDone Bundle.takeOne Lane.endPurged
    rw [transport, if_pos (Nat.le_of_eq last), if_pos (by simp [path, Bundle.empty]),
      Lane.endPayout_eq]
    rfl
  · rw [if_neg (by simp [full])]

/-- Nothing of a purge moves: there is none, or a note path or an empty stacker to wait for. -/
theorem Lane.purgeDelivery_none (l : Lane) (idle : ∀ p, l.payout = some p → p.state = .purging →
    l.transport.path = [] → l.transport.stacker.notes = 0) : l.purgeDelivery = l := by
  unfold Lane.purgeDelivery
  cases hp : l.payout with
  | none => rfl
  | some p =>
    dsimp only
    rw [if_neg]
    rintro ⟨purging, path, notes⟩
    exact notes (idle p hp purging path)

/-! ### The count of the tray (R69, R70, R73) -/

theorem Lane.moduleOver_of_later (l : Lane) (later : l.homesIn .module = false) : l.moduleOver = l := by
  unfold Lane.moduleOver
  simp [later]

/-- The count takes a note, refuses it, or takes none more. -/
theorem Lane.delivery_tray (l : Lane) (later : l.homesIn .module = false) :
    (l.drawer.counting = true → l.drawer.counted < 100 → l.binRoom = true → l.delivery .tray =
      { l.binned with
        sup := { l.sup with homing := if l.homes = true
          then { l.sup.homing with trayNotes := l.sup.homing.trayNotes + 1 } else l.sup.homing }
        drawer := { l.drawer with counted := l.drawer.counted + 1 } })
    ∧ (l.drawer.counting = true → l.drawer.counted < 100 → l.binRoom = false →
      l.delivery .tray = l.countStopped false)
    ∧ (l.drawer.counting = false ∨ 100 ≤ l.drawer.counted → l.delivery .tray = l) := by
  unfold Lane.delivery
  rw [l.moduleOver_of_later later]
  unfold Lane.countDelivery Lane.trayDelivery
  rw [Lane.binAccept_eq]
  refine ⟨fun counting below room => ?_, fun counting below full => ?_, fun ends => ?_⟩
  · rw [if_pos (by simp [counting, below, Config.trayLimit]), if_pos room]
    dsimp only
    by_cases homes : l.homes = true
    · simp only [homes, if_true]
      rfl
    · simp only [homes]
      rfl
  · rw [if_pos (by simp [counting, below, Config.trayLimit]), if_neg (by simp [full])]
  · rw [if_neg]
    rcases ends with still | full
    · simp [still]
    · simp [Config.trayLimit, Nat.not_lt.mpr full]

/-! ### A count that stops, by the drawer's owner (R70, R82, R89, R91) -/

/-- The lane as a stopped count leaves it, before its owner is told. -/
def Lane.trayRetained (l : Lane) : Lane :=
  { l with drawer := { l.drawer with contents := .retained, counting := false } }

/-- The closing cause of a stopped count: the drawer's, of the transport after a jam, of the bin otherwise. -/
def Causes.ofCount (c : Causes) (jammed : Bool) : Causes :=
  if jammed then { c with transportDrawer := true } else { c with purgeDrawer := true }

/-- A stopped count leaves the tray RETAINED, tells the drawer's owner and raises its cause; homing goes on. -/
theorem Lane.countStopped_course (l : Lane) (jammed : Bool) : l.countStopped jammed =
    ((l.trayRetained.retractDone jammed).raise (fun c => c.ofCount jammed)).drawerHomed := rfl

/-- A count that stops outside homing tells its owner and closes the lane (R70). -/
theorem Lane.countStopped_tells (l : Lane) (jammed : Bool) (homes : l.homes = false) :
    l.countStopped jammed =
      (l.trayRetained.retractDone jammed).raise (fun c => c.ofCount jammed) := by
  rw [l.countStopped_eq jammed homes]
  rfl

theorem Lane.retractDone_unowned (l : Lane) (jammed : Bool) (owner : l.drawer.owner = none) :
    l.retractDone jammed = l := by
  unfold Lane.retractDone Lane.owningPayout Lane.owningIntake
  rw [owner]

/-- The count of a payout's retract ends it RETRACTED (R50, R70). -/
theorem Lane.retractDone_payout (l : Lane) (jammed : Bool) (t : Tag) (p : Payout)
    (owner : l.drawer.owner = some ⟨.payout, t⟩) (hp : l.payout = some p) : l.retractDone jammed =
      l.payoutOver p (.retract p.tag l.drawer.presented l.drawer.counted p.drawn (p.binned + l.drawer.counted))
        (.retracted l.drawer.presented l.drawer.counted) := by
  unfold Lane.retractDone Lane.owningPayout
  rw [owner]
  dsimp only
  rw [hp]
  exact Lane.endPayout_eq _ _ _ _

theorem Lane.retractDone_intake (l : Lane) (jammed : Bool) (k : OwnerKind) (t : Tag) (i : Intake)
    (owner : l.drawer.owner = some ⟨k, t⟩) (kind : k ≠ .payout) (hi : l.intake = some i) :
    l.retractDone jammed = l.intakeRetracted i jammed := by
  unfold Lane.retractDone Lane.owningPayout Lane.owningIntake
  rw [owner]
  cases k with
  | payout => exact absurd rfl kind
  | intake | giveback => simp only [hi]

/-- A jammed count of an intake's returns leaves the intake STOPPED (R91; log entry 12). -/
theorem Lane.intakeRetracted_jammed (l : Lane) (i : Intake) (hs : i.state = .returning) :
    l.intakeRetracted i true =
      (l.intakeStopped { i with uncollected := i.uncollected + l.drawer.counted }
        (captured .uncollected l.drawer.counted)
        (.intakeEnd .jammed i.counts (l.escrowValue i) i.returned i.suspect (i.uncollected + l.drawer.counted)
          i.trayLeft)).closedFor { l.sup.causes with transportModule := true } := by
  unfold Lane.intakeRetracted
  rw [if_neg (by simp [hs]), if_pos rfl, Lane.raise_eq, (l.stopIntake_eq i _).2.2.2 hs]
  rfl

/-- A stopped count of a tray that no one owns (R70). -/
theorem Lane.countStopped_unowned (l : Lane) (jammed : Bool) (homes : l.homes = false)
    (owner : l.drawer.owner = none) :
    l.countStopped jammed = l.trayRetained.closedFor (l.sup.causes.ofCount jammed) := by
  rw [l.countStopped_tells jammed homes, l.trayRetained.retractDone_unowned jammed owner, Lane.raise_eq]
  rfl

/-- A stopped count of a payout's retract ends it RETRACTED (R50, R70). -/
theorem Lane.countStopped_payout (l : Lane) (jammed : Bool) (t : Tag) (p : Payout) (homes : l.homes = false)
    (owner : l.drawer.owner = some ⟨.payout, t⟩) (hp : l.payout = some p) :
    l.countStopped jammed = (l.trayRetained.payoutOver p
      (.retract p.tag l.drawer.presented l.drawer.counted p.drawn (p.binned + l.drawer.counted))
      (.retracted l.drawer.presented l.drawer.counted)).closedFor (l.sup.causes.ofCount jammed) := by
  rw [l.countStopped_tells jammed homes, l.trayRetained.retractDone_payout jammed t p owner hp, Lane.raise_eq,
    Lane.payoutOver_sup]
  rfl

/-- The lane of a stopped count whose delivered notes are recorded as uncollected, the drawer released (R82, R89). -/
def Lane.trayRecorded (l : Lane) : Lane :=
  { l.trayRetained with
    journal := l.joining (captured .uncollected l.drawer.counted)
    drawer := { l.trayRetained.drawer with owner := none, receiving := false } }

/-- The intake with a stopped count's notes uncollected, and the slot of their record used. -/
def Intake.uncollects (i : Intake) (n : Nat) : Intake :=
  { i with uncollected := i.uncollected + n, slots := i.slots - (captured .uncollected n).length }

/-- A refusal in the count of an intake's returns ends them as at the tray's end (R70, R82). -/
theorem Lane.countStopped_returns (l : Lane) (t : Tag) (i : Intake) (homes : l.homes = false)
    (owner : l.drawer.owner = some ⟨.intake, t⟩) (hi : l.intake = some i) (hs : i.state = .returning) :
    l.countStopped false = (l.trayRecorded.depositOver (i.uncollects l.drawer.counted)).closedFor
      (l.sup.causes.ofCount false) := by
  rw [l.countStopped_tells false homes, l.trayRetained.retractDone_intake false .intake t i owner (by decide) hi,
    l.trayRetained.intakeRetracted_deposit i t owner (by simp [hs]), Lane.raise_eq, Lane.depositOver_sup]
  rfl

/-- A jam in the count of an intake's returns stops the intake and raises both transport causes (R91; log
entry 12). -/
theorem Lane.countStopped_returns_jammed (l : Lane) (t : Tag) (i : Intake) (homes : l.homes = false)
    (owner : l.drawer.owner = some ⟨.intake, t⟩) (hi : l.intake = some i) (hs : i.state = .returning) :
    l.countStopped true = (l.trayRetained.intakeStopped { i with uncollected := i.uncollected + l.drawer.counted }
      (captured .uncollected l.drawer.counted)
      (.intakeEnd .jammed i.counts (l.escrowValue i) i.returned i.suspect (i.uncollected + l.drawer.counted)
        i.trayLeft)).closedFor { l.sup.causes.ofCount true with transportModule := true } := by
  rw [l.countStopped_tells true homes, l.trayRetained.retractDone_intake true .intake t i owner (by decide) hi,
    Lane.intakeRetracted_jammed _ i hs, Lane.raise_eq, Lane.closedFor_twice, Lane.closedFor_sup]
  rfl

/-- A stopped count of a giveback's retract ends it RETRACTED (R89; log entry 12). -/
theorem Lane.countStopped_giveback (l : Lane) (jammed : Bool) (t : Tag) (i : Intake) (homes : l.homes = false)
    (owner : l.drawer.owner = some ⟨.giveback, t⟩) (hi : l.intake = some i) (hs : i.state = .givingBack) :
    l.countStopped jammed = (l.trayRecorded.givebackOver (i.uncollects l.drawer.counted) .retracted l.drawer.counted
      0).closedFor (l.sup.causes.ofCount jammed) := by
  rw [l.countStopped_tells jammed homes, l.trayRetained.retractDone_intake jammed .giveback t i owner (by decide) hi,
    l.trayRetained.intakeRetracted_giveback i jammed t owner hs, Lane.raise_eq, Lane.givebackOver_sup]
  rfl

/-! ### The steps of homing (R190, R191; log entries 4, 6 and 7) -/

/-- A cause closes no lane in STARTING (R188). -/
theorem Lane.raise_homing (l : Lane) (f : Causes → Causes) (homes : l.homes = true) :
    l.raise f = { l with sup := { l.sup with causes := f l.sup.causes } } := by
  rw [Lane.raise_eq]
  refine l.closedFor_of_not_open _ ?_
  rw [(l.homes_iff.mp homes).1]
  decide

/-- Step 1 stops: whether notes are left in the stacker, and which, are free values (R191). -/
theorem Lane.moduleStopped_eq (l : Lane) (fromStacker : Bool) (homes : l.homes = true) :
    l.moduleStopped fromStacker = ({ l with
      transport := { l.transport with stacker :=
        let left : Bundle := ⟨.cash, Config.strandedNotes l.free, Config.strandedValue l.free⟩
        if fromStacker then left else if Config.stackerHolds l.free then left else l.transport.stacker }
      free := l.free + 1 } : Lane).drawerHoming := by
  have begins (m : Lane) (sup : m.sup = l.sup) : m.drawerStep = m.drawerHoming := by
    refine m.drawerStep_eq ?_
    unfold Lane.homes
    rw [sup]
    exact homes
  refine Eq.trans ?_ (begins _ rfl)
  unfold Lane.moduleStopped
  refine congrArg Lane.drawerStep ?_
  cases fromStacker with
  | true => rfl
  | false => by_cases holds : Config.stackerHolds l.free = true <;> simp [holds, Lane.strandStacker]

/-- Step 1 delivers a note, or is stopped by its refusal. -/
theorem Lane.moduleDelivery_eq (l : Lane) (fromStacker : Bool) (homes : l.homes = true) :
    (l.binRoom = true → l.moduleDelivery fromStacker = { l.binned with
      sup := { l.sup with homing := { l.sup.homing with moduleNotes := l.sup.homing.moduleNotes + 1 } } })
    ∧ (l.binRoom = false → l.moduleDelivery fromStacker =
      ({ l with sup := { l.sup with causes := { l.sup.causes with purgeModule := true } } } : Lane).moduleStopped
        fromStacker) := by
  unfold Lane.moduleDelivery
  rw [Lane.binAccept_eq]
  refine ⟨fun room => by rw [if_pos room]; rfl, fun full => ?_⟩
  rw [if_neg (by simp [full]), l.raise_homing _ homes]

/-- Step 3 delivers a note, or is stopped by its refusal. -/
theorem Lane.escrowDelivery_eq (l : Lane) (homes : l.homes = true) :
    (l.binRoom = true → l.escrowDelivery = { l.binned with
      sup := { l.sup with homing := { l.sup.homing with escrowNotes := l.sup.homing.escrowNotes + 1 } } })
    ∧ (l.binRoom = false → l.escrowDelivery =
      ({ l with sup := { l.sup with causes := { l.sup.causes with purgeModule := true } } } : Lane).envelopeHoming) := by
  unfold Lane.escrowDelivery
  rw [Lane.binAccept_eq]
  refine ⟨fun room => by rw [if_pos room]; rfl, fun full => ?_⟩
  rw [if_neg (by simp [full]), l.raise_homing _ homes, Lane.envelopeStep_eq]

/-- A count of an unowned tray that stops in homing leaves it RETAINED; step 2 is over with it (R73, R190). -/
theorem Lane.countStopped_homing (l : Lane) (jammed : Bool) (homes : l.homes = true) (owner : l.drawer.owner = none) :
    l.countStopped jammed = { l.trayRetained with
      sup := { l.sup with
        causes := l.sup.causes.ofCount jammed
        homing := { l.sup.homing with
          step := if l.sup.homing.step = .drawer then .escrow else l.sup.homing.step } } } := by
  rw [Lane.countStopped_course, l.trayRetained.retractDone_unowned jammed owner, l.trayRetained.raise_homing _ homes]
  unfold Lane.drawerHomed
  by_cases drawer : l.sup.homing.step = .drawer
  · rw [if_pos (by rw [Lane.homesIn_iff]; exact ⟨homes, drawer⟩), if_pos drawer]
    rfl
  · rw [if_neg (by rw [Lane.homesIn_iff]; exact fun h => drawer h.2), if_neg drawer]
    rfl

/-- A note of the tray ends step 1 (log entry 4). -/
theorem Lane.delivery_tray_module (l : Lane) (here : l.homesIn .module = true) :
    l.delivery .tray = l.drawerHoming.delivery .tray := by
  have homes : l.homes = true := ((l.homesIn_iff .module).mp here).1
  have begins : l.moduleOver = l.drawerHoming := (if_pos here).trans (l.drawerStep_eq homes)
  have step : l.drawerHoming.sup.homing.step = .drawer := by
    unfold Lane.drawerHoming
    dsimp only
    split <;> rfl
  have past : l.drawerHoming.homesIn .module = false := by
    rw [← Bool.not_eq_true, Lane.homesIn_iff, step]
    simp
  unfold Lane.delivery
  rw [begins, l.drawerHoming.moduleOver_of_later past]

/-- A jam in each step of homing (R190; log entry 6). -/
theorem Lane.jam_homing (l : Lane) (a : Option Position) (still : l.drawer.counting = false) (homes : l.homes = true) :
    let jammed : Lane := { l.struckAt a with
      sup := { l.sup with causes := { l.sup.causes with transportModule := true } } }
    l.jam a = match l.sup.homing.step with
      | .module => jammed.moduleStopped false
      | .drawer => (l.struckAt a).countStopped true
      | .escrow => jammed.envelopeHoming
      | .envelope => l.struckAt a := by
  have sup := (l.struckAt_frame a).1
  rw [l.jam_steps a still homes]
  unfold Lane.homingJam
  dsimp only
  rw [(l.struckAt a).raise_homing _ ((l.struckAt_homes a).trans homes), sup]
  cases l.sup.homing.step with
  | escrow => exact Lane.envelopeStep_eq _
  | module | drawer | envelope => rfl

/-- A jam in step 1 stops it (R190, R191). -/
theorem Lane.jam_module (l : Lane) (a : Option Position) (still : l.drawer.counting = false) (homes : l.homes = true)
    (step : l.sup.homing.step = .module) : l.jam a = ({ l.struckAt a with
      sup := { l.sup with causes := { l.sup.causes with transportModule := true } }
      transport := { l.transport with stacker := if Config.stackerHolds l.free
        then ⟨.cash, Config.strandedNotes l.free, Config.strandedValue l.free⟩ else l.transport.stacker }
      free := l.free + 1 } : Lane).drawerHoming := by
  obtain ⟨-, -, -, -, transport, -, -, -, free, -⟩ := l.struckAt_frame a
  have stops := l.jam_homing a still homes
  rw [step] at stops
  refine (stops.trans (Lane.moduleStopped_eq _ false homes)).trans ?_
  dsimp only
  rw [transport, free]
  rfl

/-- A jam in step 2, or in a count of an unowned tray in any step, leaves the tray RETAINED (R70, R73; log entry 6). -/
theorem Lane.jam_drawer (l : Lane) (a : Option Position) (homes : l.homes = true) (owner : l.drawer.owner = none)
    (stage : l.sup.homing.step = .drawer ∨ l.drawer.counting = true) : l.jam a = { l.struckAt a with
      sup := { l.sup with
        causes := { l.sup.causes with transportDrawer := true }
        homing := { l.sup.homing with
          step := if l.sup.homing.step = .drawer then .escrow else l.sup.homing.step } }
      drawer := { l.drawer with contents := .retained, counting := false } } := by
  obtain ⟨sup, drawer, -⟩ := l.struckAt_frame a
  have stops : l.jam a = (l.struckAt a).countStopped true := by
    cases counting : l.drawer.counting with
    | true => exact l.jam_counting a counting
    | false =>
      have stops := l.jam_homing a counting homes
      rwa [stage.resolve_right (by simp [counting])] at stops
  rw [stops, (l.struckAt a).countStopped_homing true ((l.struckAt_homes a).trans homes) (drawer ▸ owner)]
  unfold Lane.trayRetained
  rw [sup, drawer]
  rfl

/-- A jam in step 3 stops it, and one in step 4 strikes its pick point alone (R190). -/
theorem Lane.jam_later (l : Lane) (a : Option Position) (still : l.drawer.counting = false) (homes : l.homes = true) :
    (l.sup.homing.step = .escrow → l.jam a = ({ l.struckAt a with
      sup := { l.sup with causes := { l.sup.causes with transportModule := true } } } : Lane).envelopeHoming)
    ∧ (l.sup.homing.step = .envelope → l.jam a = l.struckAt a) := by
  have stops := l.jam_homing a still homes
  exact ⟨fun step => by rwa [step] at stops, fun step => by rwa [step] at stops⟩

/-- Step 1 offers the notes of the note path and of the stacker (R190). -/
theorem Lane.delivery_module (l : Lane) (source : NoteSource) (origin : source = .notePath ∨ source = .stacker)
    (here : l.homesIn .module = true) : l.delivery source = l.moduleDelivery (source == .stacker) := by
  rcases origin with rfl | rfl
  · exact if_pos here
  · exact (if_pos ((l.homesIn_iff .module).mp here).1).trans (if_pos here)

/-! ### What stops a count -/

/-- The lane in which a count stops: after a jam its pick point is struck. -/
def Lane.struckIf (l : Lane) (jammed : Bool) (a : Option Position) : Lane := if jammed then l.struckAt a else l

theorem Lane.struckIf_frame (l : Lane) (jammed : Bool) (a : Option Position) :
    (l.struckIf jammed a).sup = l.sup ∧ (l.struckIf jammed a).drawer = l.drawer
    ∧ (l.struckIf jammed a).payout = l.payout ∧ (l.struckIf jammed a).intake = l.intake
    ∧ (∀ i, (l.struckIf jammed a).escrowValue i = l.escrowValue i)
    ∧ (∀ r, (l.struckIf jammed a).joining r = l.joining r) := by
  cases jammed with
  | false => exact ⟨rfl, rfl, rfl, rfl, fun _ => rfl, fun _ => rfl⟩
  | true =>
    obtain ⟨sup, drawer, payout, intake, -, -, journal, clock, -⟩ := l.struckAt_frame a
    refine ⟨sup, drawer, payout, intake, l.struckAt_escrowValue a, fun r => ?_⟩
    unfold Lane.struckIf Lane.joining Lane.wallSeconds
    rw [if_pos rfl, journal, clock, sup]

/-- A jam stops a count, and so does a note of the tray that the bin refuses (R70). -/
theorem count_stops (q : List Instr) (l : Lane) (jammed : Bool) (a : Option Position)
    (later : l.homesIn .module = false) (counting : l.drawer.counting = true)
    (refusal : jammed = false → l.drawer.counted < 100 ∧ l.binRoom = false) :
    (if jammed then exec (.transportJam a) ⟨q, l⟩ else exec (.binNoteDelivery .tray) ⟨q, l⟩)
      = .next ⟨q, (l.struckIf jammed a).countStopped jammed⟩ := by
  cases jammed with
  | true => exact transportJam_next q (l.jam_counting a counting)
  | false => exact binNoteDelivery_next q ((l.delivery_tray later).2.1 counting (refusal rfl).1 (refusal rfl).2)

/-- Settles O36: a jam and a delivery are split by what is in motion: homing, a count, a payout, an intake. -/
theorem jamsAndTheBinEndMoneyInMotion : Obligations.JamsAndTheBinEndMoneyInMotion := by
  unfold Obligations.JamsAndTheBinEndMoneyInMotion
  intro q l homing step jam note
  have away : ¬homing → l.homes = false := l.homes_eq_false.mpr
  have runs : homing → l.homes = true := l.homes_iff.mpr
  have later (st : HomingStep) (h : ¬(homing ∧ step = st)) : l.homesIn st = false := by
    rw [← Bool.not_eq_true, Lane.homesIn_iff, Lane.homes_iff]
    exact h
  refine ⟨?payouts, ?intakes, ?nothing, ?counts, ?counted, ?homings, ?trayIdle, ?notePath, ?escrow, ?stackerLater,
    ?stackerIdle⟩
  case payouts =>
    intro p hp home
    refine ⟨fun at_ moves still => transportJam_next q (l.jam_payout at_ p still (away home) hp moves),
      fun purging path notes => ?_⟩
    obtain ⟨more, last, refused⟩ := l.purgeDelivery_eq p hp purging path notes
    have offers := l.delivery_stacker (away home)
    exact ⟨fun room many => binNoteDelivery_next q (offers.trans (more room many)),
      fun room one => binNoteDelivery_next q (offers.trans (last room one)),
      fun full => binNoteDelivery_next q (offers.trans ((refused full).trans (l.payoutBinRefused_eq p)))⟩
  case intakes =>
    intro i at_ hp hi home still stops
    have jams := l.jam_intake at_ i still (away home) hp hi
    obtain ⟨feeding, keeping, givingBack, -⟩ := (l.struckAt at_).stopIntake_eq i 0
    rw [l.struckAt_escrowValue] at feeding
    rw [l.struckAt_keptRecord] at keeping
    exact ⟨fun hs => transportJam_next q (jams (.inl hs) _ _ (feeding hs)),
      fun hs => transportJam_next q (jams (.inr (.inl hs)) _ _ (keeping hs)),
      fun hs notes => transportJam_next q (jams (.inr (.inr ⟨hs, notes⟩)) _ _ (givingBack hs rfl))⟩
  case nothing =>
    intro at_ home still payout intake
    exact transportJam_next q (l.jam_idle at_ still (away home) payout intake)
  case counts =>
    intro jammed at_ t counting home refusal stops n causes left
    have answer : stops = .next ⟨q, (l.struckIf jammed at_).countStopped jammed⟩ :=
      count_stops q l jammed at_ (later .module (fun h => home h.1)) counting refusal
    obtain ⟨sup, drawer, payout, intake, value, joins⟩ := l.struckIf_frame jammed at_
    have retained : left = (l.struckIf jammed at_).trayRetained := by
      unfold Lane.trayRetained
      rw [drawer]
      rfl
    generalize l.struckIf jammed at_ = m at *
    have homes : m.homes = false := by
      unfold Lane.homes
      rw [sup]
      exact away home
    have caused : causes = m.sup.causes.ofCount jammed := by rw [sup]; rfl
    rw [answer, caused]
    refine ⟨fun owner => next_congr q ?_, fun p owner hp => next_congr q ?_, fun i hi => ?_⟩
    · rw [m.countStopped_unowned jammed homes (drawer ▸ owner), retained]
    · rw [m.countStopped_payout jammed t p homes (drawer ▸ owner) (payout ▸ hp), retained, drawer]
    · intro late taken written recorded
      have records : recorded = m.trayRecorded := by
        unfold Lane.trayRecorded
        rw [← retained, joins, drawer]
      refine ⟨fun owner hs => ⟨fun refused => next_congr q ?_, fun jam => next_congr q ?_⟩,
        fun owner hs => next_congr q ?_⟩
      · subst refused
        rw [m.countStopped_returns t i homes (drawer ▸ owner) (intake ▸ hi) hs, ← records, drawer]
        rfl
      · subst jam
        rw [m.countStopped_returns_jammed t i homes (drawer ▸ owner) (intake ▸ hi) hs, ← retained, drawer, value]
      · rw [m.countStopped_giveback jammed t i homes (drawer ▸ owner) (intake ▸ hi) hs, ← records, drawer]
        rfl
  case counted =>
    intro counting below room notModule
    refine binNoteDelivery_next q (((l.delivery_tray (later .module notModule)).1 counting below room).trans ?_)
    simp only [Lane.homes_iff]
    rfl
  case homings =>
    intro home left held counts jams refuses strands retains
    have homes := runs home
    have here (st : HomingStep) (at_ : step = st) : l.homesIn st = true := (l.homesIn_iff st).mpr ⟨homes, at_⟩
    refine ⟨?inModule, ?inDrawer, ?trayRefused, ?inEscrow, ?inEnvelope⟩
    case inModule =>
      intro inModule
      refine ⟨fun source origin => ?_, fun at_ still => transportJam_next q (l.jam_module at_ still homes inModule),
        next_congr q (l.delivery_tray_module (here .module inModule))⟩
      have offers := l.delivery_module source origin (here .module inModule)
      obtain ⟨accepts, refusal⟩ := l.moduleDelivery_eq (source == .stacker) homes
      refine ⟨fun room => binNoteDelivery_next q (offers.trans (accepts room)),
        fun full => binNoteDelivery_next q ((offers.trans (refusal full)).trans ?_)⟩
      rw [refuses.moduleStopped_eq (source == .stacker) homes]
      rcases origin with rfl | rfl <;> rfl
    case inDrawer =>
      intro at_ stage owner
      exact transportJam_next q (l.jam_drawer at_ homes owner stage)
    case trayRefused =>
      intro counting below full notModule owner
      refine binNoteDelivery_next q (Eq.trans ?_ (l.countStopped_homing false homes owner))
      exact (l.delivery_tray (later .module (fun h => notModule h.2))).2.1 counting below full
    case inEscrow =>
      intro inEscrow
      have offers : l.delivery .escrow = l.escrowDelivery := if_pos (here .escrow inEscrow)
      obtain ⟨accepts, refusal⟩ := l.escrowDelivery_eq homes
      refine ⟨fun room => binNoteDelivery_next q (offers.trans (accepts room)),
        fun full => binNoteDelivery_next q (offers.trans (refusal full)),
        fun at_ still => transportJam_next q ((l.jam_later at_ still homes).1 inEscrow)⟩
    case inEnvelope =>
      intro at_ inEnvelope still
      exact transportJam_next q ((l.jam_later at_ still homes).2 inEnvelope)
  case trayIdle =>
    intro ends notModule
    exact binNoteDelivery_next q ((l.delivery_tray (later .module notModule)).2.2 ends)
  case notePath =>
    intro notModule
    exact binNoteDelivery_next q (if_neg (by simp [later .module notModule]))
  case escrow =>
    intro notEscrow
    exact binNoteDelivery_next q (if_neg (by simp [later .escrow notEscrow]))
  case stackerLater =>
    intro home notModule
    refine binNoteDelivery_next q ((if_pos (runs home)).trans (if_neg ?_))
    simp [later .module (fun h => notModule h.2)]
  case stackerIdle =>
    intro home idle
    exact binNoteDelivery_next q ((l.delivery_stacker (away home)).trans (l.purgeDelivery_none idle))

end Sys2Proof.Machine

/-! PROOFS. The choice of a note mix: the numbers chosen are the fewest and then the greatest (O52).

A search orders the eligible positions into pools, chooses a number of notes for each pool and splits each number over
the pool's positions. The proof follows these three steps: what `chooseNumbers` chooses is the greatest candidate of
its note total; `pools` is the list of eligible positions, sorted; `splitPools` empties the pools' positions in order.
A payment by positions and a candidate by pools are then the same thing, by sums over the positions. -/

namespace Sys2Proof.Machine

/-! ### The choice of the numbers (R23, R24) -/

/-- The sum of a choice's notes, each at what its denomination counts for. -/
def weighted (c : Nat → Nat) (qs : List (Nat × Nat)) (ms : List Nat) : Nat :=
  (List.zipWith (fun q m => m * c q.1) qs ms).sum

@[simp] theorem weighted_cons (c : Nat → Nat) (q : Nat × Nat) (qs : List (Nat × Nat)) (m : Nat) (ms : List Nat) :
    weighted c (q :: qs) (m :: ms) = m * c q.1 + weighted c qs ms := rfl

@[simp] theorem weighted_nil (c : Nat → Nat) (ms : List Nat) : weighted c [] ms = 0 := rfl

/-- Each number is within its availability. -/
def Within : List (Nat × Nat) → List Nat → Prop
  | [], [] => True
  | q :: qs, m :: ms => m ≤ q.2 ∧ Within qs ms
  | _, _ => False

/-- A candidate of `n` notes over denominations and availabilities (R23). -/
structure Candidate (qs : List (Nat × Nat)) (n amount : Nat) (ms : List Nat) : Prop where
  within : Within qs ms
  notes : weighted (fun _ => 1) qs ms = n
  value : weighted id qs ms = amount

theorem candidate_nil {n amount : Nat} {ms : List Nat} :
    Candidate [] n amount ms ↔ ms = [] ∧ n = 0 ∧ amount = 0 := by
  constructor
  · rintro ⟨within, rfl, rfl⟩
    cases ms with
    | nil => exact ⟨rfl, rfl, rfl⟩
    | cons => exact within.elim
  · rintro ⟨rfl, rfl, rfl⟩
    exact ⟨trivial, rfl, rfl⟩

theorem candidate_cons {d a : Nat} {qs : List (Nat × Nat)} {n amount : Nat} {ms : List Nat} :
    Candidate ((d, a) :: qs) n amount ms ↔
      ∃ m rest, ms = m :: rest ∧ m ≤ min a n ∧ m * d ≤ amount ∧ Candidate qs (n - m) (amount - m * d) rest := by
  constructor
  · rintro ⟨within, notes, value⟩
    cases ms with
    | nil => exact within.elim
    | cons m rest =>
      obtain ⟨fits, others⟩ := within
      simp only [weighted_cons, id, Nat.mul_one] at notes value fits
      exact ⟨m, rest, rfl, by omega, by omega, others, by omega, by omega⟩
  · rintro ⟨m, rest, rfl, fits, below, within, notes, value⟩
    refine ⟨⟨Nat.le_trans fits (Nat.min_le_left a n), within⟩, ?_, ?_⟩ <;>
      simp only [weighted_cons, id, Nat.mul_one] <;> omega

/-- With one denomination left its number is all the notes. -/
theorem candidate_singleton {d a n amount : Nat} {ms : List Nat} :
    Candidate [(d, a)] n amount ms ↔ ms = [n] ∧ n ≤ a ∧ n * d = amount := by
  simp only [candidate_cons, candidate_nil]
  constructor
  · rintro ⟨m, _, rfl, fits, below, rfl, notes, value⟩
    obtain rfl : m = n := by omega
    exact ⟨rfl, by omega, by omega⟩
  · rintro ⟨rfl, fits, rfl⟩
    exact ⟨n, [], rfl, by omega, Nat.le_refl _, rfl, by omega, by omega⟩

/-- The order of the choices: by the first number, then by the rest (R24). -/
def AtMost : List Nat → List Nat → Prop
  | [], _ => True
  | _ :: _, [] => False
  | m' :: ms', m :: ms => m' < m ∨ m' = m ∧ AtMost ms' ms

/-- A candidate that every other comes at most to. -/
structure Greatest (qs : List (Nat × Nat)) (n amount : Nat) (ms : List Nat) : Prop where
  candidate : Candidate qs n amount ms
  bound : ∀ ms', Candidate qs n amount ms' → AtMost ms' ms

theorem firstDown_eq_none {β : Type} {f : Nat → Option β} {m : Nat} (h : firstDown f m = none) :
    ∀ k ≤ m, f k = none := by
  induction m with
  | zero => simpa [firstDown] using h
  | succ m ih =>
    unfold firstDown at h
    split at h
    next => cases h
    next none_here =>
      intro k hk
      rcases Nat.le_succ_iff.mp hk with hk | rfl
      · exact ih h k hk
      · exact none_here

/-- The first answer downward is that of the greatest number that has one. -/
theorem firstDown_eq_some {β : Type} {f : Nat → Option β} {m : Nat} {r : β} (h : firstDown f m = some r) :
    ∃ k ≤ m, f k = some r ∧ ∀ j ≤ m, k < j → f j = none := by
  induction m with
  | zero => exact ⟨0, Nat.le_refl _, h, by omega⟩
  | succ m ih =>
    unfold firstDown at h
    split at h
    next r' here => exact ⟨m + 1, Nat.le_refl _, here.trans h, by omega⟩
    next none_here =>
      obtain ⟨k, hk, answer, above⟩ := ih h
      refine ⟨k, by omega, answer, fun j hj hkj => ?_⟩
      rcases Nat.le_succ_iff.mp hj with hj | rfl
      · exact above j hj hkj
      · exact none_here

/-- The numbers chosen are the greatest candidate, number by number from the largest denomination; where none are
chosen there is no candidate (R24). -/
theorem chooseNumbers_spec (qs : List (Nat × Nat)) (n amount : Nat) :
    (∀ ms, chooseNumbers qs n amount = some ms → Greatest qs n amount ms)
    ∧ (chooseNumbers qs n amount = none → ∀ ms, ¬Candidate qs n amount ms) := by
  match qs with
  | [] =>
    simp only [chooseNumbers]
    split
    next none_ =>
      have empty : n = 0 ∧ amount = 0 := by simpa using none_
      refine ⟨fun ms chosen => ?_, nofun⟩
      obtain rfl := Option.some.inj chosen
      refine ⟨candidate_nil.mpr ⟨rfl, empty⟩, fun ms' is => ?_⟩
      rw [(candidate_nil.mp is).1]
      trivial
    next some_ => exact ⟨nofun, fun _ ms is => some_ (by simpa using (candidate_nil.mp is).2)⟩
  | [(d, a)] =>
    simp only [chooseNumbers]
    split
    next pays =>
      have pays : n ≤ a ∧ n * d = amount := by simpa using pays
      refine ⟨fun ms chosen => ?_, nofun⟩
      obtain rfl := Option.some.inj chosen
      refine ⟨candidate_singleton.mpr ⟨rfl, pays⟩, fun ms' is => ?_⟩
      rw [(candidate_singleton.mp is).1]
      exact .inr ⟨rfl, trivial⟩
    next unpaid =>
      exact ⟨nofun, fun _ ms is => unpaid (by simpa using (candidate_singleton.mp is).2)⟩
  | (d, a) :: q :: rest =>
    rw [chooseNumbers]
    constructor
    · intro ms chosen
      obtain ⟨k, hk, answer, above⟩ := firstDown_eq_some chosen
      split at answer
      case isFalse => cases answer
      case isTrue below =>
        obtain ⟨ms', chosen', rfl⟩ := Option.map_eq_some_iff.mp answer
        obtain ⟨is, greatest⟩ := (chooseNumbers_spec (q :: rest) (n - k) (amount - k * d)).1 ms' chosen'
        refine ⟨candidate_cons.mpr ⟨k, ms', rfl, hk, below, is⟩, fun other h => ?_⟩
        obtain ⟨j, other', rfl, hj, below', is'⟩ := candidate_cons.mp h
        rcases Nat.lt_trichotomy j k with hjk | rfl | hjk
        · exact .inl hjk
        · exact .inr ⟨rfl, greatest _ is'⟩
        · have none' := above j hj hjk
          rw [if_pos below', Option.map_eq_none_iff] at none'
          exact absurd is' ((chooseNumbers_spec (q :: rest) _ _).2 none' other')
    · intro none' ms h
      obtain ⟨j, ms', rfl, hj, below, is⟩ := candidate_cons.mp h
      have none' := firstDown_eq_none none' j hj
      rw [if_pos below, Option.map_eq_none_iff] at none'
      exact (chooseNumbers_spec (q :: rest) _ _).2 none' ms' is

/-- The first answer over a range is that of the smallest number that has one. -/
theorem findSome?_range_eq_some {β : Type} {f : Nat → Option β} {limit : Nat} {r : β}
    (h : (List.range limit).findSome? f = some r) : ∃ n < limit, f n = some r ∧ ∀ k < n, f k = none := by
  obtain ⟨before, n, after, range, answer, none'⟩ := List.findSome?_eq_some_iff.mp h
  have mem (k : Nat) : k < limit ↔ k ∈ before ++ n :: after := by rw [← range, List.mem_range]
  refine ⟨n, (mem n).mpr (by simp), answer, fun k hk => none' k ?_⟩
  have sorted := range ▸ List.pairwise_lt_range (n := limit)
  have later := (List.pairwise_cons.mp (List.pairwise_append.mp sorted).2.1).1
  have hn := (mem n).mpr (by simp)
  have listed := (mem k).mp (by omega)
  rcases List.mem_append.mp listed with early | late
  · exact early
  · rcases List.mem_cons.mp late with rfl | late
    · omega
    · exact absurd (later k late) (by omega)

/-- The denominations and availabilities of the pools. -/
def offers (ps : List Pool) : List (Nat × Nat) := ps.map (fun p => (p.denomination, p.available))

/-- The candidate chosen has the fewest notes, and is the greatest of those (R24). -/
theorem chooseCandidate_eq_some {ps : List Pool} {amount limit : Nat} {ms : List Nat}
    (h : chooseCandidate ps amount limit = some ms) :
    ∃ n ≤ limit, Greatest (offers ps) n amount ms
      ∧ ∀ k ms', 0 < k → Candidate (offers ps) k amount ms' → n ≤ k := by
  obtain ⟨n, hn, answer, fewer⟩ := findSome?_range_eq_some h
  refine ⟨n + 1, hn, (chooseNumbers_spec _ _ _).1 ms answer, fun k ms' hk is => ?_⟩
  refine Nat.le_of_not_lt fun less => ?_
  have none' := fewer (k - 1) (by omega)
  rw [Nat.sub_add_cancel hk] at none'
  exact (chooseNumbers_spec _ _ _).2 none' ms' is

theorem chooseCandidate_eq_none {ps : List Pool} {amount limit : Nat}
    (h : chooseCandidate ps amount limit = none) (k : Nat) (hk : 0 < k) (within : k ≤ limit) (ms : List Nat) :
    ¬Candidate (offers ps) k amount ms := by
  have none' := List.findSome?_eq_none_iff.mp h (k - 1) (List.mem_range.mpr (by omega))
  rw [Nat.sub_add_cancel hk] at none'
  exact (chooseNumbers_spec _ _ _).2 none' ms

/-- What a note of denomination `x` counts for among the notes of denomination `d`. -/
def ofDenomination (d x : Nat) : Nat := if x = d then 1 else 0

theorem weighted_ofDenomination_eq_zero {qs : List (Nat × Nat)} {d : Nat} (smaller : ∀ q ∈ qs, q.1 < d)
    (ms : List Nat) : weighted (ofDenomination d) qs ms = 0 := by
  induction qs generalizing ms with
  | nil => rfl
  | cons q qs ih =>
    obtain ⟨below, smaller⟩ := List.forall_mem_cons.mp smaller
    cases ms with
    | nil => rfl
    | cons m ms => simp [ih smaller, ofDenomination, Nat.ne_of_lt below]

/-- Of two choices that agree on every denomination larger than `d`, the greater takes as many notes of `d`. -/
theorem weighted_le_of_le {qs : List (Nat × Nat)} {ms ms' : List Nat} {n n' amount amount' d : Nat}
    (sorted : qs.Pairwise (fun x y => y.1 < x.1)) (is : Candidate qs n amount ms)
    (is' : Candidate qs n' amount' ms') (greater : AtMost ms' ms)
    (agree : ∀ d', d < d' → weighted (ofDenomination d') qs ms' = weighted (ofDenomination d') qs ms) :
    weighted (ofDenomination d) qs ms' ≤ weighted (ofDenomination d) qs ms := by
  induction qs generalizing ms ms' n n' amount amount' with
  | nil => simp
  | cons q qs ih =>
    obtain ⟨m, rest, rfl, -, -, is⟩ := candidate_cons.mp is
    obtain ⟨m', rest', rfl, -, -, is'⟩ := candidate_cons.mp is'
    obtain ⟨smaller, sorted⟩ := List.pairwise_cons.mp sorted
    simp only [weighted_cons] at agree ⊢
    rcases Nat.lt_trichotomy q.1 d with below | rfl | above
    · have none_ := weighted_ofDenomination_eq_zero fun q' hq' => Nat.lt_trans (smaller q' hq') below
      simp [none_, ofDenomination, Nat.ne_of_lt below]
    · simp only [weighted_ofDenomination_eq_zero smaller, ofDenomination, if_true, Nat.mul_one, Nat.add_zero]
      exact greater.elim Nat.le_of_lt fun same => Nat.le_of_eq same.1
    · have same := agree q.1 above
      simp only [weighted_ofDenomination_eq_zero smaller, ofDenomination, if_true, Nat.mul_one, Nat.add_zero] at same
      subst same
      have greater := (greater.resolve_left (Nat.lt_irrefl _)).2
      exact Nat.add_le_add_left (ih sorted is is' greater fun d' hd' => by simpa using agree d' hd') _

end Sys2Proof.Machine

/-! PROOFS. The pools of a note mix: the eligible positions, sorted, and the split over them (O52). -/

namespace Sys2Proof.Machine

/-! ### The pools (R21, R22) -/

/-- The split order of a pool's positions: most notes first, equal counts in ascending position (R27). -/
def Before (x y : Position × Nat) : Prop := y.2 < x.2 ∨ (x.2 = y.2 ∧ x.1 < y.1)

/-- The positions of the pools with their denominations and counts, in pick-list order. -/
def entries (ps : List Pool) : List (Nat × Position × Nat) :=
  ps.flatMap (fun p => p.sources.map (Prod.mk p.denomination))

/-- What a position adds to the pools: nothing without notes or without a denomination (R22). -/
def offered (eligible : Position → Nat) (t : Four Cassette) (i : Position) : Option (Nat × Position × Nat) :=
  if eligible i = 0 then none else (t.get i).denomination.map (·, i, eligible i)

theorem mem_entries {ps : List Pool} {e : Nat × Position × Nat} :
    e ∈ entries ps ↔ ∃ p ∈ ps, p.denomination = e.1 ∧ e.2 ∈ p.sources := by
  simp only [entries, List.mem_flatMap, List.mem_map]
  constructor
  · rintro ⟨p, hp, s, hs, rfl⟩
    exact ⟨p, hp, rfl, hs⟩
  · rintro ⟨p, hp, hd, hs⟩
    exact ⟨p, hp, e.2, hs, Prod.ext hd rfl⟩

theorem offered_eq_some {eligible : Position → Nat} {t : Four Cassette} {i : Position} {e : Nat × Position × Nat} :
    offered eligible t i = some e ↔
      0 < eligible i ∧ (t.get i).denomination = some e.1 ∧ e.2 = (i, eligible i) := by
  obtain ⟨d, s⟩ := e
  unfold offered
  split
  · simp_all
  · rw [Option.map_eq_some_iff]
    simp only [Prod.mk.injEq]
    constructor
    · rintro ⟨_, h, rfl, rfl⟩
      exact ⟨by omega, h, rfl⟩
    · rintro ⟨-, h, rfl⟩
      exact ⟨d, h, rfl, rfl⟩

theorem insertSource_perm (s : Position × Nat) (l : List (Position × Nat)) :
    (insertSource s l).Perm (s :: l) := by
  induction l with
  | nil => exact .refl _
  | cons x l ih =>
    unfold insertSource
    split
    · exact .refl _
    · exact (ih.cons x).trans (.swap s x l)

/-- A source of a later position takes its place in split order. -/
theorem insertSource_sorted {s : Position × Nat} {l : List (Position × Nat)} (sorted : l.Pairwise Before)
    (later : ∀ x ∈ l, x.1 < s.1) : (insertSource s l).Pairwise Before := by
  induction l with
  | nil => exact List.pairwise_singleton _ _
  | cons x l ih =>
    obtain ⟨first, sorted'⟩ := List.pairwise_cons.mp sorted
    obtain ⟨after, later⟩ := List.forall_mem_cons.mp later
    unfold insertSource
    split
    next fuller =>
      refine List.pairwise_cons.mpr ⟨List.forall_mem_cons.mpr ⟨.inl fuller, fun y hy => .inl ?_⟩, sorted⟩
      rcases first y hy with less | ⟨same, -⟩ <;> omega
    next full =>
      refine List.pairwise_cons.mpr ⟨fun y hy => ?_, ih sorted' later⟩
      rcases List.mem_cons.mp ((insertSource_perm s l).mem_iff.mp hy) with rfl | hy
      · rcases Nat.lt_or_eq_of_le (Nat.le_of_not_lt full) with less | same
        · exact .inl less
        · exact .inr ⟨same.symm, after⟩
      · exact first y hy

theorem entries_insertPool (d : Nat) (s : Position × Nat) (ps : List Pool) :
    (entries (insertPool d s ps)).Perm ((d, s) :: entries ps) := by
  induction ps with
  | nil => exact .refl _
  | cons p ps ih =>
    unfold insertPool
    split
    next same =>
      subst same
      exact ((insertSource_perm s p.sources).map _).append_right (entries ps)
    split
    next => exact .refl _
    next => exact (ih.append_left _).trans List.perm_middle

/-- A pool after an insertion is as it was, or is of the inserted denomination and has the source in its place. -/
theorem mem_insertPool {d : Nat} {s : Position × Nat} {ps : List Pool} {p : Pool} (h : p ∈ insertPool d s ps) :
    p ∈ ps ∨ p.denomination = d ∧ (p.sources = [s] ∨ ∃ o ∈ ps, p.sources = insertSource s o.sources) := by
  induction ps with
  | nil =>
    obtain rfl := List.mem_singleton.mp h
    exact .inr ⟨rfl, .inl rfl⟩
  | cons o ps ih =>
    unfold insertPool at h
    split at h
    next same =>
      rcases List.mem_cons.mp h with rfl | h
      · exact .inr ⟨same, .inr ⟨o, by simp, rfl⟩⟩
      · exact .inl (List.mem_cons_of_mem _ h)
    split at h
    next =>
      rcases List.mem_cons.mp h with rfl | h
      · exact .inr ⟨rfl, .inl rfl⟩
      · exact .inl h
    next =>
      rcases List.mem_cons.mp h with rfl | h
      · exact .inl (by simp)
      rcases ih h with h | ⟨hd, h | ⟨o', ho', h⟩⟩
      · exact .inl (List.mem_cons_of_mem _ h)
      · exact .inr ⟨hd, .inl h⟩
      · exact .inr ⟨hd, .inr ⟨o', List.mem_cons_of_mem _ ho', h⟩⟩

/-- The pools stand in descending denomination, none twice (R22). -/
def Descending (ps : List Pool) : Prop := ps.Pairwise (fun p o => o.denomination < p.denomination)

theorem insertPool_descending (d : Nat) (s : Position × Nat) {ps : List Pool} (descending : Descending ps) :
    Descending (insertPool d s ps) := by
  unfold Descending at *
  induction ps with
  | nil => exact List.pairwise_singleton _ _
  | cons p ps ih =>
    obtain ⟨first, rest⟩ := List.pairwise_cons.mp descending
    unfold insertPool
    split
    next => exact List.pairwise_cons.mpr ⟨first, rest⟩
    next other =>
      split
      next larger =>
        exact List.pairwise_cons.mpr
          ⟨List.forall_mem_cons.mpr ⟨larger, fun o ho => Nat.lt_trans (first o ho) larger⟩, descending⟩
      next smaller =>
        refine List.pairwise_cons.mpr ⟨fun o ho => ?_, ih rest⟩
        rcases mem_insertPool ho with ho | ⟨hd, -⟩
        · exact first o ho
        · omega

/-- Pools over the positions seen, sorted by denomination and within each by split order. -/
structure PoolsOf (eligible : Position → Nat) (t : Four Cassette) (seen : List Position) (ps : List Pool) : Prop where
  perm : (entries ps).Perm (seen.filterMap (offered eligible t))
  descending : Descending ps
  split : ∀ p ∈ ps, p.sources.Pairwise Before

/-- What stands in a pool is a position seen, with its denomination and its count, which is above 0. -/
theorem PoolsOf.mem_sources {eligible : Position → Nat} {t : Four Cassette} {seen : List Position} {ps : List Pool}
    (h : PoolsOf eligible t seen ps) {p : Pool} (hp : p ∈ ps) {s : Position × Nat} (hs : s ∈ p.sources) :
    s.1 ∈ seen ∧ (t.get s.1).denomination = some p.denomination ∧ s.2 = eligible s.1 ∧ 0 < s.2 := by
  have listed := h.perm.mem_iff.mp (mem_entries.mpr ⟨p, hp, rfl, hs⟩ : (p.denomination, s) ∈ entries ps)
  obtain ⟨i, hi, he⟩ := List.mem_filterMap.mp listed
  obtain ⟨positive, denomination, rfl⟩ := offered_eq_some.mp he
  exact ⟨hi, denomination, rfl, positive⟩

/-- The step of `pools` from position to position. -/
def joinPools (eligible : Position → Nat) (t : Four Cassette) (ps : List Pool) (i : Position) : List Pool :=
  match offered eligible t i with
  | none => ps
  | some (d, s) => insertPool d s ps

theorem pools_eq (eligible : Position → Nat) (t : Four Cassette) :
    pools eligible t = positions.foldl (joinPools eligible t) [] := by
  unfold pools
  congr
  funext ps i
  unfold joinPools offered
  cases (t.get i).denomination <;> by_cases h : eligible i = 0 <;> simp [h]

theorem joinPools_poolsOf {eligible : Position → Nat} {t : Four Cassette} {seen : List Position} {ps : List Pool}
    {i : Position} (h : PoolsOf eligible t seen ps) (later : ∀ j ∈ seen, j < i) :
    PoolsOf eligible t (seen ++ [i]) (joinPools eligible t ps i) := by
  unfold joinPools
  split
  next none_ =>
    exact ⟨by simpa [List.filterMap_append, none_] using h.perm, h.descending, h.split⟩
  next d s some_ =>
    obtain ⟨-, -, source⟩ := offered_eq_some.mp some_
    refine ⟨?_, insertPool_descending d s h.descending, fun p hp => ?_⟩
    · rw [List.filterMap_append, List.filterMap_cons_some some_, List.filterMap_nil]
      exact (entries_insertPool d s ps).trans ((h.perm.cons _).trans (List.perm_append_singleton _ _).symm)
    · rcases mem_insertPool hp with hp | ⟨-, alone | ⟨o, ho, inserted⟩⟩
      · exact h.split p hp
      · exact alone ▸ List.pairwise_singleton _ _
      · rw [inserted]
        refine insertSource_sorted (h.split o ho) fun x hx => ?_
        rw [show s.1 = i from congrArg Prod.fst source]
        exact later _ (h.mem_sources ho hx).1

/-- The pools of a search hold the eligible positions, sorted (R22, R27). -/
theorem pools_poolsOf (eligible : Position → Nat) (t : Four Cassette) :
    PoolsOf eligible t positions (pools eligible t) := by
  have none_seen : PoolsOf eligible t [] [] := ⟨.refl _, .nil, by simp⟩
  rw [pools_eq]
  have h0 := joinPools_poolsOf (i := 0) none_seen (by simp)
  have h1 := joinPools_poolsOf (i := 1) h0 (by decide)
  have h2 := joinPools_poolsOf (i := 2) h1 (by decide)
  exact joinPools_poolsOf (i := 3) h2 (by decide)

theorem mem_positions : ∀ i : Position, i ∈ positions := by decide

/-- The pool of a position with notes holds it with its count. -/
theorem exists_pool {eligible : Position → Nat} {t : Four Cassette} {i : Position} {d : Nat}
    (positive : 0 < eligible i) (denomination : (t.get i).denomination = some d) :
    ∃ p ∈ pools eligible t, p.denomination = d ∧ (i, eligible i) ∈ p.sources := by
  have listed : (d, i, eligible i) ∈ positions.filterMap (offered eligible t) :=
    List.mem_filterMap.mpr ⟨i, mem_positions i, offered_eq_some.mpr ⟨positive, denomination, rfl⟩⟩
  exact mem_entries.mp ((pools_poolsOf eligible t).perm.mem_iff.mpr listed)

/-- No two pools share a denomination (R22). -/
theorem Descending.eq_of_denomination {ps : List Pool} (descending : Descending ps) {p o : Pool} (hp : p ∈ ps)
    (ho : o ∈ ps) (same : p.denomination = o.denomination) : p = o := by
  induction ps with
  | nil => cases hp
  | cons first ps ih =>
    obtain ⟨below, descending⟩ := List.pairwise_cons.mp descending
    rcases List.mem_cons.mp hp with rfl | hp' <;> rcases List.mem_cons.mp ho with rfl | ho'
    · rfl
    · exact absurd same (Nat.ne_of_gt (below o ho'))
    · exact absurd same (Nat.ne_of_lt (below p hp'))
    · exact ih descending hp' ho'

/-- The split order of the positions by their counts (R27). -/
def Fuller (eligible : Position → Nat) (i j : Position) : Prop :=
  eligible j < eligible i ∨ (eligible i = eligible j ∧ i < j)

theorem Fuller.asymm {eligible : Position → Nat} {i j : Position} (h : Fuller eligible i j) :
    ¬Fuller eligible j i := by
  rintro (less | ⟨same, later⟩) <;> rcases h with h | ⟨same', h⟩
  · exact Nat.lt_asymm h less
  · exact Nat.ne_of_lt less same'
  · exact Nat.ne_of_lt h same
  · exact Fin.lt_asymm h later

/-- What a note of a position is worth. -/
def worth (t : Four Cassette) (i : Position) : Nat := (t.get i).denomination.getD 0

/-- The order of a pick list: descending denomination, and split order within one (R28). -/
def Ranked (eligible : Position → Nat) (t : Four Cassette) (i j : Position) : Prop :=
  worth t j < worth t i ∨ (worth t i = worth t j ∧ Fuller eligible i j)

theorem Ranked.ne {eligible : Position → Nat} {t : Four Cassette} {i j : Position} (h : Ranked eligible t i j) :
    i ≠ j := by
  rintro rfl
  rcases h with h | ⟨-, h⟩
  · exact Nat.lt_irrefl _ h
  · exact h.asymm h

section
variable {eligible : Position → Nat} {t : Four Cassette} {seen : List Position} {ps : List Pool}

theorem PoolsOf.worth_eq (h : PoolsOf eligible t seen ps) {p : Pool} (hp : p ∈ ps) {s : Position × Nat}
    (hs : s ∈ p.sources) : worth t s.1 = p.denomination := by
  rw [worth, (h.mem_sources hp hs).2.1, Option.getD_some]

theorem PoolsOf.positive (h : PoolsOf eligible t seen ps) {p : Pool} (hp : p ∈ ps) :
    ∀ s ∈ p.sources, 0 < s.2 := fun _ hs => (h.mem_sources hp hs).2.2.2

/-- A pool's positions stand in split order. -/
theorem PoolsOf.fuller (h : PoolsOf eligible t seen ps) {p : Pool} (hp : p ∈ ps) :
    (p.sources.map (·.1)).Pairwise (Fuller eligible) := by
  refine List.pairwise_map.mpr ((h.split p hp).imp_of_mem fun {x y} hx hy before => ?_)
  rw [Before, (h.mem_sources hp hx).2.2.1, (h.mem_sources hp hy).2.2.1] at before
  exact before

/-- The positions of the pools stand in pick-list order (R28). -/
theorem PoolsOf.ranked (h : PoolsOf eligible t seen ps) :
    ((entries ps).map (·.2.1)).Pairwise (Ranked eligible t) := by
  rw [List.pairwise_map, entries, List.pairwise_flatMap]
  constructor
  · intro p hp
    refine List.pairwise_map.mpr ((List.pairwise_map.mp (h.fuller hp)).imp_of_mem fun {x y} hx hy fuller => ?_)
    exact .inr ⟨(h.worth_eq hp hx).trans (h.worth_eq hp hy).symm, fuller⟩
  · refine h.descending.imp_of_mem fun {p o} hp ho larger x hx y hy => ?_
    obtain ⟨s, hs, rfl⟩ := List.mem_map.mp hx
    obtain ⟨u, hu, rfl⟩ := List.mem_map.mp hy
    exact .inl (by rwa [h.worth_eq hp hs, h.worth_eq ho hu])

end

/-! ### The split over the positions (R27, R28) -/

theorem sum_map_mul {α : Type} (f : α → Nat) (c : Nat) (l : List α) :
    (l.map (fun a => f a * c)).sum = (l.map f).sum * c := by
  induction l with
  | nil => exact (Nat.zero_mul c).symm
  | cons a l ih => simp only [List.map_cons, List.sum_cons, Nat.add_mul, ih]

/-- A pool's notes empty its first positions, and are drawn from one more as far as they go. -/
theorem splitPool_eq {l : List (Position × Nat)} (positive : ∀ s ∈ l, 0 < s.2) (m : Nat) :
    splitPool l m = [] ∨ ∃ full last k rest, l = full ++ last :: rest ∧ splitPool l m = full ++ [(last.1, k)]
      ∧ 0 < k ∧ k ≤ last.2 := by
  induction l generalizing m with
  | nil => exact .inl rfl
  | cons s l ih =>
    obtain ⟨hs, others⟩ := List.forall_mem_cons.mp positive
    obtain ⟨i, e⟩ := s
    simp only at hs
    by_cases none_ : m = 0
    · exact .inl (by simp [splitPool, none_])
    right
    simp only [splitPool, none_, if_false]
    rcases ih others (m - min e m) with done | ⟨full, last, k, rest, rfl, drawn, hk, within⟩
    · exact ⟨[], (i, e), min e m, l, rfl, by rw [done]; rfl, by omega, by simp only; omega⟩
    · have more : e ≤ m := by
        refine Nat.le_of_not_lt fun less => ?_
        rw [Nat.min_eq_right (by omega), Nat.sub_self] at drawn
        cases full <;> simp [splitPool] at drawn
      exact ⟨(i, e) :: full, last, k, rest, rfl, by rw [drawn, Nat.min_eq_left more]; rfl, hk, within⟩

theorem splitPool_sum {l : List (Position × Nat)} {m : Nat} (within : m ≤ (l.map (·.2)).sum) :
    ((splitPool l m).map (·.2)).sum = m := by
  induction l generalizing m with
  | nil => simpa [splitPool, eq_comm] using within
  | cons s l ih =>
    simp only [List.map_cons, List.sum_cons] at within
    unfold splitPool
    split
    next none_ => simp [none_]
    next =>
      simp only [List.map_cons, List.sum_cons, ih (show m - min s.2 m ≤ _ by omega)]
      omega

theorem splitPool_sublist {l : List (Position × Nat)} (positive : ∀ s ∈ l, 0 < s.2) (m : Nat) :
    ((splitPool l m).map (·.1)).Sublist (l.map (·.1)) := by
  rcases splitPool_eq positive m with drawn | ⟨full, last, k, rest, rfl, drawn, -, -⟩
  · simp [drawn]
  · simp [drawn]

/-- A pick takes at least one note of its position, and no more than there are. -/
theorem mem_splitPool {l : List (Position × Nat)} (positive : ∀ s ∈ l, 0 < s.2) {m : Nat} {x : Position × Nat}
    (hx : x ∈ splitPool l m) : 0 < x.2 ∧ ∃ e, (x.1, e) ∈ l ∧ x.2 ≤ e := by
  rcases splitPool_eq positive m with drawn | ⟨full, last, k, rest, rfl, drawn, hk, within⟩
  · simp [drawn] at hx
  rw [drawn] at hx
  rcases List.mem_append.mp hx with hx | hx
  · exact ⟨positive x (by simp [hx]), x.2, by simp [hx], Nat.le_refl _⟩
  · obtain rfl := List.mem_singleton.mp hx
    exact ⟨hk, last.2, by simp, within⟩

/-- What stands before a position that gives notes gives all it has (R27). -/
theorem full_mem_splitPool {R : Position → Position → Prop} (asymm : ∀ {i j}, R i j → ¬R j i)
    {l : List (Position × Nat)} (positive : ∀ s ∈ l, 0 < s.2) (sorted : (l.map (·.1)).Pairwise R) {m : Nat}
    {s x : Position × Nat} (hs : s ∈ l) (hx : x ∈ splitPool l m) (before : R s.1 x.1) : s ∈ splitPool l m := by
  rcases splitPool_eq positive m with drawn | ⟨full, last, k, rest, rfl, drawn, -, -⟩
  · simp [drawn] at hx
  rw [drawn] at hx ⊢
  obtain ⟨-, sorted, early⟩ := List.pairwise_append.mp (List.pairwise_map.mp sorted)
  rcases List.mem_append.mp hs with hs | hs
  · exact List.mem_append_left _ hs
  rcases List.mem_append.mp hx with hx | hx
  · exact absurd before (asymm (early x hx s hs))
  obtain rfl := List.mem_singleton.mp hx
  rcases List.mem_cons.mp hs with rfl | hs
  · exact absurd before (asymm before)
  · exact absurd before (asymm ((List.pairwise_cons.mp sorted).1 s hs))

/-- A pick is one of its pool's, and that pool's picks are all among the picks. -/
theorem mem_splitPools {ps : List Pool} {ms : List Nat} {x : Position × Nat} (hx : x ∈ splitPools ps ms) :
    ∃ p ∈ ps, ∃ m, x ∈ splitPool p.sources m ∧ splitPool p.sources m ⊆ splitPools ps ms := by
  induction ps generalizing ms with
  | nil => simp [splitPools] at hx
  | cons p ps ih =>
    cases ms with
    | nil => simp [splitPools] at hx
    | cons m ms =>
      rcases List.mem_append.mp hx with hx | hx
      · exact ⟨p, by simp, m, hx, List.subset_append_left _ _⟩
      · obtain ⟨o, ho, n, hx, subset⟩ := ih hx
        exact ⟨o, List.mem_cons_of_mem _ ho, n, hx, List.subset_append_of_subset_right _ subset⟩

theorem splitPools_sublist {ps : List Pool} (positive : ∀ p ∈ ps, ∀ s ∈ p.sources, 0 < s.2) (ms : List Nat) :
    ((splitPools ps ms).map (·.1)).Sublist ((entries ps).map (·.2.1)) := by
  induction ps generalizing ms with
  | nil => simp [splitPools]
  | cons p ps ih =>
    obtain ⟨hp, positive⟩ := List.forall_mem_cons.mp positive
    cases ms with
    | nil => simp [splitPools]
    | cons m ms =>
      simp only [splitPools, entries, List.flatMap_cons, List.map_append, List.map_map]
      exact (splitPool_sublist hp m).append (ih positive ms)

/-- What the picks count for is what the numbers of the pools count for. -/
theorem sum_splitPools {ps : List Pool} {ms : List Nat} {g : Position → Nat} {c : Nat → Nat}
    (within : Within (offers ps) ms)
    (counts : ∀ p ∈ ps, ∀ s ∈ p.sources, 0 < s.2 ∧ g s.1 = c p.denomination) :
    ((splitPools ps ms).map (fun x => x.2 * g x.1)).sum = weighted c (offers ps) ms := by
  induction ps generalizing ms with
  | nil => simp [splitPools, offers]
  | cons p ps ih =>
    obtain ⟨hp, counts⟩ := List.forall_mem_cons.mp counts
    cases ms with
    | nil => exact within.elim
    | cons m rest =>
      obtain ⟨fits, others⟩ := within
      have own : ((splitPool p.sources m).map (fun x => x.2 * g x.1)).sum = m * c p.denomination := by
        rw [List.map_congr_left (g := fun x => x.2 * c p.denomination), sum_map_mul, splitPool_sum fits]
        intro x hx
        obtain ⟨-, e, he, -⟩ := mem_splitPool (fun s hs => (hp s hs).1) hx
        rw [(hp _ he).2]
      rw [splitPools, List.map_append, List.sum_append, own, ih others counts]
      rfl

end Sys2Proof.Machine

/-! PROOFS. The note mix: a search answers the best payment its counts allow, and NO_MIX without one (O52). -/

namespace Sys2Proof.Machine

/-! ### Payments by positions -/

theorem sum_map_add {α : Type} (f g : α → Nat) (l : List α) :
    (l.map (fun a => f a + g a)).sum = (l.map f).sum + (l.map g).sum := by
  induction l with
  | nil => rfl
  | cons a l ih =>
    simp only [List.map_cons, List.sum_cons, ih]
    omega

theorem sum_map_le {α : Type} {f g : α → Nat} {l : List α} (le : ∀ a ∈ l, f a ≤ g a) :
    (l.map f).sum ≤ (l.map g).sum := by
  induction l with
  | nil => exact Nat.le_refl _
  | cons a l ih =>
    obtain ⟨ha, le⟩ := List.forall_mem_cons.mp le
    exact Nat.add_le_add ha (ih le)

theorem sum_map_congr {α : Type} {f g : α → Nat} {l : List α} (same : ∀ a, f a = g a) :
    (l.map f).sum = (l.map g).sum := by rw [funext same]

/-- A sum over the positions of what stands at one of them. -/
theorem sum_positions_single (i : Position) (k : Nat) (g : Position → Nat) :
    (positions.map (fun j => (if i = j then k else 0) * g j)).sum = k * g i := by
  match i with
  | 0 | 1 | 2 | 3 => simp [positions]

theorem sum_filter_map {α : Type} (p : α → Prop) [DecidablePred p] (f : α → Nat) (l : List α) :
    ((l.filter p).map f).sum = (l.map (fun a => f a * if p a then 1 else 0)).sum := by
  induction l with
  | nil => rfl
  | cons a l ih => by_cases h : p a <;> simp [h, ih]

theorem Mix.from_cons (x : Position × Nat) (picks : List (Position × Nat)) (below : Bool) (i : Position) :
    Mix.from ⟨x :: picks, below⟩ i = (if x.1 = i then x.2 else 0) + Mix.from ⟨picks, below⟩ i := by
  unfold Mix.from
  by_cases h : x.1 = i <;> simp [h]

/-- Sums over the picks are sums over what each position gives. -/
theorem Mix.sum_from (m : Mix) (g : Position → Nat) :
    (positions.map (fun i => m.from i * g i)).sum = (m.picks.map (fun x => x.2 * g x.1)).sum := by
  obtain ⟨picks, below⟩ := m
  induction picks with
  | nil => simp [Mix.from, positions]
  | cons x picks ih =>
    simp only [Mix.from_cons, Nat.add_mul, sum_map_add, sum_positions_single, ih, List.map_cons, List.sum_cons]

/-- A position without a pick gives nothing. -/
theorem Mix.from_eq_zero {m : Mix} {i : Position} (h : i ∉ m.picks.map (·.1)) : m.from i = 0 := by
  have none_ : m.picks.filter (·.1 == i) = [] :=
    List.filter_eq_nil_iff.mpr fun x hx same => h (List.mem_map.mpr ⟨x, hx, by simpa using same⟩)
  rw [Mix.from, none_]
  rfl

/-- A position picked once gives what its pick says. -/
theorem Mix.from_eq {m : Mix} (once : (m.picks.map (·.1)).Nodup) {x : Position × Nat} (hx : x ∈ m.picks) :
    m.from x.1 = x.2 := by
  obtain ⟨picks, below⟩ := m
  induction picks with
  | nil => cases hx
  | cons y picks ih =>
    obtain ⟨fresh, once⟩ := List.nodup_cons.mp once
    rw [Mix.from_cons]
    rcases List.mem_cons.mp hx with rfl | hx
    · simp [Mix.from_eq_zero (m := ⟨picks, below⟩) fresh]
    · have other : y.1 ≠ x.1 := fun same => fresh (List.mem_map.mpr ⟨x, hx, same.symm⟩)
      simp [other, ih once hx]

/-- The numbers of notes of each pool that a choice by positions takes. -/
def numbers (n : Position → Nat) (ps : List Pool) : List Nat :=
  ps.map (fun p => (p.sources.map (fun s => n s.1)).sum)

theorem weighted_numbers (c : Nat → Nat) (n : Position → Nat) (ps : List Pool) :
    weighted c (offers ps) (numbers n ps) = ((entries ps).map (fun e => n e.2.1 * c e.1)).sum := by
  induction ps with
  | nil => rfl
  | cons p ps ih =>
    simp only [entries, List.flatMap_cons, List.map_append, List.sum_append, List.map_map] at ih ⊢
    rw [← ih, Function.comp_def]
    simp only [sum_map_mul]
    rfl

theorem sum_filterMap {α β : Type} (f : α → Option β) (g : β → Nat) (l : List α) :
    ((l.filterMap f).map g).sum = (l.map (fun a => (f a).elim 0 g)).sum := by
  induction l with
  | nil => rfl
  | cons a l ih => cases h : f a <;> simp [h, ih]

/-- What the numbers of the pools count for is what the positions' notes count for, those without a denomination
left out. -/
theorem weighted_numbers_pools (c : Nat → Nat) {t : Four Cassette} {eligible n : Position → Nat}
    (within : ∀ i, n i ≤ eligible i) :
    weighted c (offers (pools eligible t)) (numbers n (pools eligible t))
      = (positions.map (fun i => n i * (t.get i).denomination.elim 0 c)).sum := by
  rw [weighted_numbers, ((pools_poolsOf eligible t).perm.map _).sum_nat, sum_filterMap]
  refine sum_map_congr fun i => ?_
  have fits := within i
  cases denomination : (t.get i).denomination <;> by_cases none_ : eligible i = 0
  · simp [offered, none_]
  · simp [offered, denomination, none_]
  · simp [offered, none_, show n i = 0 by omega]
  · simp [offered, denomination, none_]

theorem within_numbers {n : Position → Nat} {ps : List Pool}
    (fits : ∀ p ∈ ps, ∀ s ∈ p.sources, n s.1 ≤ s.2) : Within (offers ps) (numbers n ps) := by
  induction ps with
  | nil => trivial
  | cons p ps ih =>
    obtain ⟨hp, fits⟩ := List.forall_mem_cons.mp fits
    exact ⟨sum_map_le hp, ih fits⟩

/-- A choice within the counts is within what the pools have. -/
theorem within_numbers_pools {t : Four Cassette} {eligible n : Position → Nat} (within : ∀ i, n i ≤ eligible i) :
    Within (offers (pools eligible t)) (numbers n (pools eligible t)) := by
  refine within_numbers fun p hp s hs => ?_
  rw [((pools_poolsOf eligible t).mem_sources hp hs).2.2.1]
  exact within s.1

/-! ### What a search answers -/

/-- The notes of a choice. -/
def noteTotal (n : Four Nat) : Nat := (positions.map n.get).sum

/-- The notes of a choice that are of denomination `d`. -/
def inNotes (t : Four Cassette) (n : Four Nat) (d : Nat) : Nat :=
  ((positions.filter (worth t · = d)).map n.get).sum

/-- A choice of notes within the counts that pays the amount exactly and within the bundle limit (R23). -/
def Pays (t : Four Cassette) (eligible : Position → Nat) (amount limit : Nat) (n : Four Nat) : Prop :=
  (∀ i, n.get i ≤ eligible i) ∧ (positions.map (fun i => n.get i * worth t i)).sum = amount ∧ noteTotal n ≤ limit

/-- What each position gives in a mix. -/
def Mix.drawn (m : Mix) : Four Nat := Four.ofFn m.from

/-- The mix is the payment of fewest notes, the greatest of those, and split in order (R24, R27, R28). -/
def Chosen (t : Four Cassette) (eligible : Position → Nat) (amount limit : Nat) (m : Mix) : Prop :=
  Pays t eligible amount limit m.drawn
  ∧ (∀ n, Pays t eligible amount limit n → noteTotal m.drawn ≤ noteTotal n
      ∧ (noteTotal n = noteTotal m.drawn → ∀ d, (∀ d', d < d' → inNotes t n d' = inNotes t m.drawn d') →
          inNotes t n d ≤ inNotes t m.drawn d))
  ∧ (∀ i j, (t.get i).denomination = (t.get j).denomination → Fuller eligible i j → 0 < m.drawn.get j →
      m.drawn.get i = eligible i)
  ∧ m.picks.Pairwise (fun x y => Ranked eligible t x.1 y.1)
  ∧ ∀ x ∈ m.picks, 0 < x.2

/-- The answer is a chosen mix if any choice pays, and NO_MIX if none does (R24, R29). -/
def Answers (t : Four Cassette) (amount : Nat) (eligible : Position → Nat) (limit : Nat) (below : Bool)
    (a : MixAnswer) : Prop :=
  (∀ n, Pays t eligible amount limit n → ∃ m, a = .mix m ∧ m.belowMark = below ∧ Chosen t eligible amount limit m)
  ∧ ((∀ n, ¬Pays t eligible amount limit n) → a = .noMix)

theorem inNotes_eq (t : Four Cassette) (n : Four Nat) (d : Nat) :
    inNotes t n d = (positions.map (fun i => n.get i * ofDenomination d (worth t i))).sum := sum_filter_map _ _ _

@[simp] theorem Mix.drawn_get (m : Mix) (i : Position) : m.drawn.get i = m.from i := Four.get_ofFn _ _

theorem weighted_eq_zero {qs : List (Nat × Nat)} {ms : List Nat} (none_ : weighted (fun _ => 1) qs ms = 0)
    (c : Nat → Nat) : weighted c qs ms = 0 := by
  induction qs generalizing ms with
  | nil => rfl
  | cons q qs ih =>
    cases ms with
    | nil => rfl
    | cons m ms =>
      simp only [weighted_cons, Nat.mul_one, Nat.add_eq_zero_iff] at none_
      simp [none_.1, ih none_.2]

section
variable {t : Four Cassette} {eligible : Position → Nat} {amount limit : Nat}

/-- A payment is a candidate of as many notes, or of fewer if it has notes without a denomination. -/
theorem Pays.candidate {n : Four Nat} (pays : Pays t eligible amount limit n) (positive : 0 < amount) :
    ∃ k ≤ noteTotal n, 0 < k
      ∧ Candidate (offers (pools eligible t)) k amount (numbers n.get (pools eligible t)) := by
  obtain ⟨within, value, -⟩ := pays
  have worths : weighted id (offers (pools eligible t)) (numbers n.get (pools eligible t)) = amount := by
    rw [weighted_numbers_pools _ within, ← value]
    refine sum_map_congr fun i => ?_
    unfold worth
    cases (t.get i).denomination <;> simp
  refine ⟨_, ?_, Nat.pos_of_ne_zero fun none_ => ?_, within_numbers_pools within, rfl, worths⟩
  · rw [weighted_numbers_pools _ within]
    refine sum_map_le fun i _ => ?_
    cases (t.get i).denomination <;> simp
  · rw [weighted_eq_zero none_ id] at worths
    omega

/-- A payment's notes of a denomination above 0 are those of the denomination's pool. -/
theorem Pays.inNotes_eq_weighted {n : Four Nat} (pays : Pays t eligible amount limit n) {d : Nat} (positive : 0 < d) :
    inNotes t n d
      = weighted (ofDenomination d) (offers (pools eligible t)) (numbers n.get (pools eligible t)) := by
  rw [weighted_numbers_pools _ pays.1, inNotes_eq]
  refine sum_map_congr fun i => ?_
  unfold worth
  cases (t.get i).denomination <;> simp [ofDenomination, Nat.ne_of_lt positive]

/-- Without its notes worth nothing a payment still pays, in so many notes fewer. -/
theorem Pays.drop_worthless {n : Four Nat} (pays : Pays t eligible amount limit n) :
    ∃ n', Pays t eligible amount limit n' ∧ noteTotal n' + inNotes t n 0 = noteTotal n := by
  obtain ⟨within, value, notes⟩ := pays
  have total : noteTotal (Four.ofFn fun i => if worth t i = 0 then 0 else n.get i) + inNotes t n 0
      = noteTotal n := by
    rw [noteTotal, inNotes_eq, ← sum_map_add]
    refine sum_map_congr fun i => ?_
    by_cases h : worth t i = 0 <;> simp [h, ofDenomination]
  refine ⟨_, ⟨fun i => ?_, ?_, by omega⟩, total⟩
  · have fits := within i
    by_cases h : worth t i = 0 <;> simp [h, fits]
  · rw [← value]
    refine sum_map_congr fun i => ?_
    by_cases h : worth t i = 0 <;> simp [h]

/-- The mix of the numbers chosen for the pools. -/
def splitMix (eligible : Position → Nat) (t : Four Cassette) (ms : List Nat) (below : Bool) : Mix :=
  { picks := splitPools (pools eligible t) ms, belowMark := below }

theorem splitMix_ranked (ms : List Nat) (below : Bool) :
    (splitMix eligible t ms below).picks.Pairwise (fun x y => Ranked eligible t x.1 y.1) := by
  have isPools := pools_poolsOf eligible t
  exact List.pairwise_map.mp (isPools.ranked.sublist (splitPools_sublist (fun p hp => isPools.positive hp) ms))

/-- A position's pick gives what the position gives. -/
theorem splitMix_from {ms : List Nat} {below : Bool} {x : Position × Nat}
    (hx : x ∈ (splitMix eligible t ms below).picks) : (splitMix eligible t ms below).from x.1 = x.2 :=
  Mix.from_eq (List.pairwise_map.mpr ((splitMix_ranked ms below).imp Ranked.ne)) hx

/-- A pick takes at least one note of an eligible position, and no more than its count. -/
theorem mem_splitMix {ms : List Nat} {below : Bool} {x : Position × Nat}
    (hx : x ∈ (splitMix eligible t ms below).picks) : 0 < x.2 ∧ x.2 ≤ eligible x.1 := by
  have isPools := pools_poolsOf eligible t
  obtain ⟨p, hp, m, hx, -⟩ := mem_splitPools hx
  obtain ⟨positive, e, he, within⟩ := mem_splitPool (isPools.positive hp) hx
  exact ⟨positive, (isPools.mem_sources hp he).2.2.1 ▸ within⟩

theorem splitMix_from_le (ms : List Nat) (below : Bool) (i : Position) :
    (splitMix eligible t ms below).from i ≤ eligible i := by
  by_cases picked : i ∈ (splitMix eligible t ms below).picks.map (·.1)
  · obtain ⟨x, hx, rfl⟩ := List.mem_map.mp picked
    rw [splitMix_from hx]
    exact (mem_splitMix hx).2
  · rw [Mix.from_eq_zero picked]
    exact Nat.zero_le _

/-- Before a position gives, the fuller ones of its denomination give all they have (R27). -/
theorem splitMix_fullest_first {ms : List Nat} {below : Bool} {i j : Position}
    (same : (t.get i).denomination = (t.get j).denomination) (fuller : Fuller eligible i j)
    (gives : 0 < (splitMix eligible t ms below).from j) :
    (splitMix eligible t ms below).from i = eligible i := by
  have isPools := pools_poolsOf eligible t
  have picked : j ∈ (splitMix eligible t ms below).picks.map (·.1) := by
    refine Classical.byContradiction fun none_ => ?_
    rw [Mix.from_eq_zero none_] at gives
    exact Nat.lt_irrefl _ gives
  obtain ⟨x, hx, rfl⟩ := List.mem_map.mp picked
  obtain ⟨p, hp, m, hx, subset⟩ := mem_splitPools hx
  obtain ⟨positive, e, he, within⟩ := mem_splitPool (isPools.positive hp) hx
  obtain ⟨-, denomination, count, -⟩ := isPools.mem_sources hp he
  have has : 0 < eligible i := by
    rcases fuller with less | ⟨equal, -⟩ <;> simp only at count <;> omega
  obtain ⟨o, ho, pool, hi⟩ := exists_pool has (same.trans denomination)
  obtain rfl := isPools.descending.eq_of_denomination ho hp pool
  exact splitMix_from (subset (full_mem_splitPool Fuller.asymm (isPools.positive hp) (isPools.fuller hp) hi hx fuller))

section
variable {ms : List Nat} {k : Nat} (is : Candidate (offers (pools eligible t)) k amount ms)
include is

/-- What the mix's notes count for is what the numbers count for. -/
theorem splitMix_sum (below : Bool) {g : Position → Nat} {c : Nat → Nat}
    (counts : ∀ i d, (t.get i).denomination = some d → g i = c d) :
    ((splitMix eligible t ms below).picks.map (fun x => x.2 * g x.1)).sum = weighted c (offers (pools eligible t)) ms :=
  sum_splitPools is.within fun _ hp _ hs =>
    have ⟨_, denomination, _, positive⟩ := (pools_poolsOf eligible t).mem_sources hp hs
    ⟨positive, counts _ _ denomination⟩

theorem splitMix_value (below : Bool) : (splitMix eligible t ms below).value t = amount :=
  (splitMix_sum is below (g := worth t) (c := id) fun i d h => by simp [worth, h]).trans is.value

theorem splitMix_total (below : Bool) : (splitMix eligible t ms below).total = k := by
  have total := (splitMix_sum is below (g := fun _ => 1) (c := fun _ => 1) fun _ _ _ => rfl).trans is.notes
  simpa [Mix.total] using total

theorem noteTotal_splitMix (below : Bool) : noteTotal (splitMix eligible t ms below).drawn = k := by
  have total := Mix.sum_from (splitMix eligible t ms below) (fun _ => 1)
  simp only [Nat.mul_one] at total
  rw [noteTotal, ← splitMix_total is below, Mix.total, ← total]
  exact sum_map_congr fun i => Mix.drawn_get _ i

theorem inNotes_splitMix (below : Bool) (d : Nat) :
    inNotes t (splitMix eligible t ms below).drawn d
      = weighted (ofDenomination d) (offers (pools eligible t)) ms := by
  simp only [inNotes_eq, Mix.drawn_get, Mix.sum_from]
  exact splitMix_sum is below (g := fun i => ofDenomination d (worth t i)) fun i d' h => by simp [worth, h]

theorem splitMix_pays (below : Bool) (within : k ≤ limit) :
    Pays t eligible amount limit (splitMix eligible t ms below).drawn := by
  refine ⟨fun i => ?_, ?_, Nat.le_trans (Nat.le_of_eq (noteTotal_splitMix is below)) within⟩
  · simpa using splitMix_from_le ms below i
  · simp only [Mix.drawn_get, Mix.sum_from]
    exact splitMix_value is below

/-- The check on a mix before answering always passes (R28). -/
theorem mixCheck_splitMix (below : Bool) (within : k ≤ limit) :
    mixCheck t eligible amount limit (splitMix eligible t ms below) = true := by
  simp [mixCheck, splitMix_value is, splitMix_total is, within, splitMix_from_le]

end

/-- The mix of the candidate chosen is the chosen payment. -/
theorem splitMix_chosen {ms : List Nat} (chosen : chooseCandidate (pools eligible t) amount limit = some ms)
    (below : Bool) (positive : 0 < amount) : Chosen t eligible amount limit (splitMix eligible t ms below) := by
  obtain ⟨k, within, ⟨is, greatest⟩, fewest⟩ := chooseCandidate_eq_some chosen
  have total := noteTotal_splitMix is below
  have least (n : Four Nat) (pays : Pays t eligible amount limit n) : k ≤ noteTotal n := by
    obtain ⟨j, hj, some_, is'⟩ := pays.candidate positive
    exact Nat.le_trans (fewest j _ some_ is') hj
  refine ⟨splitMix_pays is below within, fun n pays => ⟨total ▸ least n pays, fun equal d agree => ?_⟩,
    fun i j same fuller gives => ?_, splitMix_ranked ms below, fun x hx => (mem_splitMix hx).1⟩
  · rcases Nat.eq_zero_or_pos d with rfl | hd
    · obtain ⟨n', pays', fewer⟩ := pays.drop_worthless
      have := least n' pays'
      omega
    · obtain ⟨j, hj, some_, is'⟩ := pays.candidate positive
      obtain rfl : j = k := Nat.le_antisymm (Nat.le_trans hj (Nat.le_of_eq (equal.trans total))) (fewest j _ some_ is')
      rw [pays.inNotes_eq_weighted hd, inNotes_splitMix is below]
      refine weighted_le_of_le (List.pairwise_map.mpr (pools_poolsOf eligible t).descending) is is' (greatest _ is') ?_
      intro d' hd'
      rw [← pays.inNotes_eq_weighted (Nat.lt_trans hd hd'), ← inNotes_splitMix is below]
      exact agree d' hd'
  · rw [Mix.drawn_get] at gives ⊢
    exact splitMix_fullest_first same fuller gives

/-- A search answers a mix exactly where there is a candidate (R28, R29). -/
theorem search_eq (t : Four Cassette) (spread : Bool) (excluded : Option Position) (amount limit : Nat)
    (below : Bool) :
    search t spread excluded amount limit below
      = (chooseCandidate (pools (eligibleCount spread excluded t) t) amount limit).map
          (splitMix (eligibleCount spread excluded t) t · below) := by
  unfold search
  dsimp only
  split
  next none_ => rw [none_, Option.map_none]
  next ms chosen =>
    obtain ⟨k, within, ⟨is, -⟩, -⟩ := chooseCandidate_eq_some chosen
    rw [chosen, Option.map_some]
    exact if_pos (mixCheck_splitMix is below within)

end

section
variable {t : Four Cassette} {spread : Bool} {excluded : Option Position} {amount limit : Nat} {below : Bool}

theorem search_eq_some {m : Mix} (found : search t spread excluded amount limit below = some m)
    (positive : 0 < amount) :
    m.belowMark = below ∧ Chosen t (eligibleCount spread excluded t) amount limit m := by
  rw [search_eq] at found
  obtain ⟨ms, chosen, rfl⟩ := Option.map_eq_some_iff.mp found
  exact ⟨rfl, splitMix_chosen chosen below positive⟩

theorem search_eq_none_iff (positive : 0 < amount) :
    search t spread excluded amount limit below = none
      ↔ ∀ n, ¬Pays t (eligibleCount spread excluded t) amount limit n := by
  constructor
  · intro none_ n pays
    rw [search_eq, Option.map_eq_none_iff] at none_
    obtain ⟨k, hk, some_, is⟩ := pays.candidate positive
    exact chooseCandidate_eq_none none_ k some_ (Nat.le_trans hk pays.2.2) _ is
  · intro unpaid
    refine Option.eq_none_iff_forall_ne_some.mpr fun m found => ?_
    exact unpaid _ (search_eq_some found positive).2.1

/-- A search answers the chosen mix, or NO_MIX where nothing pays (R24, R29). -/
theorem search_answers (positive : 0 < amount) :
    Answers t amount (eligibleCount spread excluded t) limit below
      (.ofSearch (search t spread excluded amount limit below)) := by
  cases found : search t spread excluded amount limit below with
  | none =>
    have unpaid := (search_eq_none_iff positive).mp found
    exact ⟨fun n pays => absurd pays (unpaid n), fun _ => rfl⟩
  | some m =>
    have chosen := search_eq_some found positive
    exact ⟨fun _ _ => ⟨m, rfl, chosen⟩, fun unpaid => absurd chosen.2.1 (unpaid _)⟩

end

/-! ### The counts of the modes (R21, R25, R30) -/

/-- The notes of a position that the mix may draw from (R21). -/
def eligibleNotes (t : Four Cassette) (i : Position) : Nat :=
  let c := t.get i
  if (c.mode = .dispense ∨ c.mode = .recycle) ∧ (c.state = .ok ∨ c.state = .low ∨ c.state = .full)
  then c.count else 0

theorem Cassette.eligible_iff (c : Cassette) :
    c.eligible = true
      ↔ (c.mode = .dispense ∨ c.mode = .recycle) ∧ (c.state = .ok ∨ c.state = .low ∨ c.state = .full) := by
  simp [Cassette.eligible, or_assoc]

theorem eligibleCount_eq (spread : Bool) (excluded : Option Position) (t : Four Cassette) (i : Position) :
    eligibleCount spread excluded t i
      = if excluded = some i then 0 else eligibleNotes t i - if spread then (t.get i).lowMark else 0 := by
  by_cases barred : excluded = some i
  · simp [eligibleCount, barred]
  · simp only [eligibleCount, eligibleNotes, ← Cassette.eligible_iff]
    by_cases draws : (t.get i).eligible = true <;> cases spread <;> simp [barred, draws]

theorem eligibleCount_fewest (t : Four Cassette) : eligibleCount false none t = eligibleNotes t := by
  funext i
  simp [eligibleCount_eq]

/-- The notes of a position above its low mark (R21). -/
def notesAboveMark (t : Four Cassette) (i : Position) : Nat := eligibleNotes t i - (t.get i).lowMark

theorem eligibleCount_spread (t : Four Cassette) : eligibleCount true none t = notesAboveMark t := by
  funext i
  simp [eligibleCount_eq, notesAboveMark]

/-- The notes of a position that a remix may draw from (R21, R30). -/
def notesExcept (excluded : Option Position) (t : Four Cassette) (i : Position) : Nat :=
  if excluded = some i then 0 else eligibleNotes t i

theorem eligibleCount_remix (excluded : Option Position) (t : Four Cassette) :
    eligibleCount false excluded t = notesExcept excluded t := by
  funext i
  simp [eligibleCount_eq, notesExcept]

/-! ### The answers of the mix unit -/

theorem firstMix_range {cap amount : Nat} (t : Four Cassette) (mode : MixMode) (h : amount = 0 ∨ cap < amount) :
    firstMix t cap amount mode = .range := if_pos (by simpa using h)

section
variable (t : Four Cassette) {cap amount : Nat} (positive : 0 < amount) (within : amount ≤ cap)
include positive within

theorem firstMix_fewest :
    firstMix t cap amount .fewest = .ofSearch (search t false none amount 40 false) :=
  if_neg (by simp; omega)

theorem firstMix_spread :
    firstMix t cap amount .spread = match search t true none amount 40 false with
      | some m => .mix m
      | none => .ofSearch (search t false none amount 40 true) :=
  if_neg (by simp; omega)

/-- A first mix in FEWEST answers from the counts of the eligible positions (R20, R21). -/
theorem firstMix_fewest_answers :
    Answers t amount (eligibleNotes t) 40 false (firstMix t cap amount .fewest) := by
  rw [firstMix_fewest t positive within, ← eligibleCount_fewest]
  exact search_answers positive

/-- SPREAD answers within the low marks where a choice pays within them (R25). -/
theorem firstMix_spread_answers_above {n : Four Nat} (pays : Pays t (notesAboveMark t) amount 40 n) :
    Answers t amount (notesAboveMark t) 40 false (firstMix t cap amount .spread) := by
  rw [← eligibleCount_spread] at pays ⊢
  have answers : Answers t amount _ 40 false (.ofSearch (search t true none amount 40 false)) :=
    search_answers positive
  rw [firstMix_spread t positive within]
  cases found : search t true none amount 40 false with
  | none => exact absurd pays ((search_eq_none_iff positive).mp found n)
  | some m =>
    rw [found] at answers
    exact answers

/-- Where none does, SPREAD answers from the FEWEST counts and sets BELOW_MARK (R25, R26). -/
theorem firstMix_spread_answers_below (unpaid : ∀ n, ¬Pays t (notesAboveMark t) amount 40 n) :
    Answers t amount (eligibleNotes t) 40 true (firstMix t cap amount .spread) := by
  rw [← eligibleCount_spread] at unpaid
  rw [firstMix_spread t positive within, (search_eq_none_iff positive).mpr unpaid, ← eligibleCount_fewest]
  exact search_answers positive

end

/-- A remix answers from the counts without the excluded position (R30). -/
theorem remix_answers (t : Four Cassette) {amount : Nat} (limit : Nat) (excluded : Option Position)
    (positive : 0 < amount) :
    Answers t amount (notesExcept excluded t) limit false (remix t amount limit excluded) := by
  rw [← eligibleCount_remix]
  exact search_answers positive

/-- Settles O52: each answer is that of one search, over the counts of its mode. -/
theorem mixPaysExactlyWithFewestNotes : Obligations.MixPaysExactlyWithFewestNotes := by
  intro t amount
  exact ⟨fun _ mode unfit => firstMix_range t mode unfit,
    fun _ positive within => ⟨firstMix_fewest_answers t positive within,
      fun _ pays => firstMix_spread_answers_above t positive within pays,
      fun unpaid => firstMix_spread_answers_below t positive within unpaid⟩,
    fun limit excluded positive => remix_answers t limit excluded positive⟩

end Sys2Proof.Machine
